-- ==== Sys2Proof/Word.lean ====
section
/-! DEFINITION. The word types of the SH-5 engine and the field types of its instructions (spec 00 R9, R10; 30 R114, R118). -/

namespace Sys2Proof

/-- A byte of memory. -/
abbrev Byte := BitVec 8

/-- A 16-bit halfword: the unit of the compact encoding. -/
abbrev Half := BitVec 16

/-- A 32-bit word: the compact view of a register, a media instruction, a single-precision pattern. -/
abbrev Word := BitVec 32

/-- A 64-bit word: a general register, an address, a double-precision pattern. -/
abbrev Quad := BitVec 64

/-- A compact register field: 4 bits (30 R114). -/
abbrev CReg := BitVec 4

/-- A media register field: 6 bits, a general, FP or control register number (30 R118). -/
abbrev MReg := BitVec 6

/-- A target register field: 3 bits (30 R118). -/
abbrev TReg := BitVec 3

end Sys2Proof
end

