-- ==== Sys2Proof/Config.lean ====
section
/-! DEFINITION. What an implementation fixes: the parameters of spec 00 R8 that are plain data (they stand in
`State`, no instruction writes them), and the OPEN functions and draws of spec 93 Part 2, which are opaque: no value
of one can be proved. -/

namespace Sys2Proof

/-- The byte order `ENDIAN` (20 R81, 10 R44). -/
inductive Endian where
  | big
  | little
  deriving DecidableEq, Repr

/-- The instruction-set mode ISM (10 R41): compact is bit value 0, media is bit value 1. -/
inductive Ism where
  | compact
  | media
  deriving DecidableEq, Repr

/-- `MISALIGNED` (20 R85): what a misaligned data access does. -/
inductive Misaligned where
  | fault
  | split
  deriving DecidableEq, Repr

/-- `COMPACT_ALIAS` (10 R38, R51): `aliased` keeps GBR, MACL, MACH, PR and FPUL in GR16, GR17, GR18 and FR32;
`separate` keeps each in a register of its own. -/
inductive CompactStorage where
  | aliased
  | separate
  deriving DecidableEq, Repr

/-- `MOVCO_MODE` (41 R347, R348): the meaning of movco.l and movli.l. -/
inductive MovcoMode where
  | refuse
  | placeholder
  deriving DecidableEq, Repr

/-- `RESET_STATE` (70 R901): what a register holds after `Reset()`. Under `unwritten` an instruction that reads a bit which
nothing has written since is refused (70 R902). -/
inductive ResetState where
  | zero
  | unwritten
  deriving DecidableEq, Repr

/-- `COMPACT_EXT` (30 R117): which of the SH-2A and SH-4A rows of the compact table are recognised. -/
structure CompactExt where
  divu : Bool
  mulr : Bool
  movi20 : Bool
  movi20s : Bool
  movuaL : Bool
  movuaLInc : Bool
  movLLoadDisp12 : Bool
  movLStoreDisp12 : Bool
  fmovLoadDisp12 : Bool
  fmovStoreDisp12 : Bool
  deriving DecidableEq, Repr

/-- The decided `COMPACT_EXT` (00 R8, D44): every addition. -/
def CompactExt.decided : CompactExt :=
  ⟨true, true, true, true, true, true, true, true, true, true⟩

/-- A range of byte addresses, from `base` up to but not including `base + size`, with its two permissions. A list of
regions writes down the pair of address sets `MEM` (20 R83). -/
structure Region where
  base : Nat
  size : Nat
  readable : Bool
  writable : Bool
  deriving DecidableEq, Repr

/-- The parameters a model takes (00 R8) that are plain data. The byte order is `State.endian` (10 R44). -/
structure Params where
  mem : List Region
  misaligned : Misaligned
  storage : CompactStorage
  ext : CompactExt
  movco : MovcoMode
  resetState : ResetState
  deriving DecidableEq, Repr

/-- Every 64-bit byte address, readable and writable. DESIGN CHOICE (log entry 5): `MEM` is OPEN (D11). -/
def Region.whole : Region := ⟨0, 2 ^ 64, true, true⟩

/-- The decided values of 00 R8 (D9, D3, D44, D25), with the whole address space mapped. DESIGN CHOICE (log entry 1):
`RESET_STATE` is OPEN (D31), and `zero` stands here. -/
def Params.decided : Params :=
  ⟨[Region.whole], .fault, .aliased, CompactExt.decided, .refuse, .zero⟩

namespace Config

/-- `DIVU_ZERO` (40 R221, D34): the result of divu by 0, any function of the dividend. Free value. -/
opaque divuZero : Word → Word

/-- `MACH_SAT` (40 R230, D33): MACH after a saturating mac.w, drawn anew each time. Free value, applied to the
counter `State.draws`. -/
opaque machSat : Nat → Word

/-- The sign bit of `FP_NAN.s` (48 R732, D18). Free value. -/
opaque nanSign32 : Bool

/-- The fraction of `FP_NAN.s` (48 R732, D18). Free value; `Machine.fpNan32` keeps it non-zero. -/
opaque nanFraction32 : BitVec 23

/-- The sign bit of `FP_NAN.d` (48 R732, D18). Free value. -/
opaque nanSign64 : Bool

/-- The fraction of `FP_NAN.d` (48 R732, D18). Free value; `Machine.fpNan64` keeps it non-zero. -/
opaque nanFraction64 : BitVec 52

/-- `FP_CVT_INVALID(w, x)` (48 R740, D20) for an `xw`-bit pattern `x`: any fixed total function. Free value. -/
opaque fpCvtInvalid : (w : Nat) → (xw : Nat) → BitVec xw → BitVec w

/-- `FP_DOT4` (48 R741, D21) where its constraints leave the result open. Free value: a function of the eight inputs. -/
opaque fpDot4 : Vector Word 4 → Vector Word 4 → Word

/-- Element `i` of `FP_MTRX` (48 R742, D21) where its constraints leave the result open. Free value: a function of the
sixteen matrix elements and the vector. -/
opaque fpMtrx : Vector Word 16 → Vector Word 4 → Nat → Word

end Config

end Sys2Proof
end

