-- ==== Sys2Proof/Machine/Bits.lean ====
section
/-! DEFINITION. Bit fields, sign extension, saturation and lanes (spec 00 R9, R10, R15, R16), the byte order of
values of 2, 4 and 8 bytes (20 R81), and the field constraints of 43 R431 and 48 R751. -/

namespace Sys2Proof.Machine

/-- `sext64_32` (00 R10). -/
def sext64 (v : Word) : Quad := v.signExtend 64

/-- `zext64` of a 32-bit value (10 R35). -/
def zext64 (v : Word) : Quad := v.setWidth 64

/-- The low 32 bits of a register. -/
def low32 (v : Quad) : Word := v.setWidth 32

/-- The high 32 bits of a register. -/
def high32 (v : Quad) : Word := v.extractLsb' 32 32

/-- The value `v` with its bit `i` written. -/
def setBit (v : Word) (i : Nat) (b : Bool) : Word :=
  (v &&& ~~~(1#32 <<< i)) ||| ((BitVec.ofBool b).setWidth 32 <<< i)

/-- A truth value as a number of width `w`: 1 or 0. -/
def truth (w : Nat) (b : Bool) : BitVec w := if b then 1 else 0

/-- A lane of ones or of zeros (45 R577). -/
def laneMask (w : Nat) (b : Bool) : BitVec w := if b then BitVec.allOnes w else 0

/-- `sat_s(N, v)` (00 R16). -/
def satS (n : Nat) (v : Int) : BitVec n :=
  BitVec.ofInt n (max (-(2 ^ (n - 1))) (min (2 ^ (n - 1) - 1) v))

/-- `sat_u(N, v)` (00 R16). -/
def satU (n : Nat) (v : Int) : BitVec n :=
  BitVec.ofInt n (max 0 (min (2 ^ n - 1) v))

/-- `B_j(x)` (00 R15): byte `j` from the least significant end. -/
def byteAt (x : Quad) (j : Nat) : Byte := x.extractLsb' (8 * j) 8

/-- `W_j(x)` (00 R15). -/
def wordAt (x : Quad) (j : Nat) : Half := x.extractLsb' (16 * j) 16

/-- `Lg_j(x)` (00 R15). -/
def longAt (x : Quad) (j : Nat) : Word := x.extractLsb' (32 * j) 32

/-- The register whose byte `j` is `f j`. -/
def packB (f : Nat → Byte) : Quad :=
  f 7 ++ f 6 ++ f 5 ++ f 4 ++ f 3 ++ f 2 ++ f 1 ++ f 0

/-- The register whose word `j` is `f j`. -/
def packW (f : Nat → Half) : Quad := f 3 ++ f 2 ++ f 1 ++ f 0

/-- The register whose long `j` is `f j`. -/
def packL (f : Nat → Word) : Quad := f 1 ++ f 0

/-- The 2-byte value whose byte at the lower address is `b0` (20 R81). -/
def join16 (e : Endian) (b0 b1 : Byte) : Half :=
  match e with
  | .big => b0 ++ b1
  | .little => b1 ++ b0

/-- The 4-byte value whose halfword at the lower address is `h0` (20 R81). -/
def join32 (e : Endian) (h0 h1 : Half) : Word :=
  match e with
  | .big => h0 ++ h1
  | .little => h1 ++ h0

/-- The 8-byte value whose long at the lower address is `w0` (20 R81). -/
def join64 (e : Endian) (w0 w1 : Word) : Quad :=
  match e with
  | .big => w0 ++ w1
  | .little => w1 ++ w0

/-- The bytes of a 2-byte value, lowest address first (20 R81). -/
def bytes16 (e : Endian) (v : Half) : List Byte :=
  match e with
  | .big => [v.extractLsb' 8 8, v.extractLsb' 0 8]
  | .little => [v.extractLsb' 0 8, v.extractLsb' 8 8]

/-- The bytes of a 4-byte value, lowest address first (20 R81). -/
def bytes32 (e : Endian) (v : Word) : List Byte :=
  match e with
  | .big => bytes16 .big (v.extractLsb' 16 16) ++ bytes16 .big (v.extractLsb' 0 16)
  | .little => bytes16 .little (v.extractLsb' 0 16) ++ bytes16 .little (v.extractLsb' 16 16)

/-- The bytes of an 8-byte value, lowest address first (20 R81). -/
def bytes64 (e : Endian) (v : Quad) : List Byte :=
  match e with
  | .big => bytes32 .big (v.extractLsb' 32 32) ++ bytes32 .big (v.extractLsb' 0 32)
  | .little => bytes32 .little (v.extractLsb' 0 32) ++ bytes32 .little (v.extractLsb' 32 32)

/-! ### Field constraints -/

/-- A compact field is even (43 R431). -/
def evenC (n : CReg) : Bool := !n.getLsbD 0

/-- A media field is even (48 R751). -/
def evenF (i : MReg) : Bool := i.extractLsb' 0 1 == 0

/-- A media field is a multiple of 4 (48 R751). -/
def mult4 (i : MReg) : Bool := i.extractLsb' 0 2 == 0

/-- A media field is a multiple of 16 (48 R751). -/
def mult16 (i : MReg) : Bool := i.extractLsb' 0 4 == 0

end Sys2Proof.Machine
end

