-- ==== Sys2Proof/Machine/Flags.lean ====
section
/-! DEFINITION. The flag computations of the compact encoding (spec 40 R201, R217, R220). -/

namespace Sys2Proof.Machine

/-- `Carry(a, b, c)` (40 R201): the carry out of bit 31 of `a + b + c`. -/
def carry (a b : Word) (c : Bool) : Bool := decide (2 ^ 32 ≤ a.toNat + b.toNat + c.toNat)

/-- `Borrow(a, b, c)` (40 R201): the borrow out of `a - b - c`. -/
def borrow (a b : Word) (c : Bool) : Bool := decide (a.toNat < b.toNat + c.toNat)

/-- `OvAdd(a, b, r)` (40 R201): signed overflow of `a + b`. -/
def ovAdd (a b r : Word) : Bool := (a.msb == b.msb) && (r.msb != a.msb)

/-- `OvSub(a, b, r)` (40 R201): signed overflow of `a - b`. -/
def ovSub (a b r : Word) : Bool := (a.msb != b.msb) && (r.msb != a.msb)

/-- The condition of cmp/str (40 R217): some byte position is equal. -/
def anyByteEq (a b : Word) : Bool :=
  let x := a ^^^ b
  (x.extractLsb' 24 8 == 0) || (x.extractLsb' 16 8 == 0) || (x.extractLsb' 8 8 == 0) || (x.extractLsb' 0 8 == 0)

/-- The shifted remainder of div1 (40 R220): T enters at bit 0. -/
def div1Shifted (rn : Word) (t : Bool) : Word := (rn <<< 1) ||| truth 32 t

/-- The new remainder of div1 (40 R220): the divisor is subtracted when Q equals M, and added otherwise. -/
def div1Result (q m : Bool) (sh d : Word) : Word :=
  match q, m with
  | false, false => sh - d
  | false, true => sh + d
  | true, false => sh + d
  | true, true => sh - d

/-- The borrow or carry of div1 (40 R220). -/
def div1Carry (q m : Bool) (sh r : Word) : Bool :=
  match q, m with
  | false, false => BitVec.ult sh r
  | false, true => BitVec.ult r sh
  | true, false => BitVec.ult r sh
  | true, true => BitVec.ult sh r

/-- The new Q of div1 (40 R220, second table), from the old Q, M, the bit shifted out and the carry. -/
def div1Q (q m qs c : Bool) : Bool :=
  match q, m, qs with
  | false, false, false => c
  | false, false, true => !c
  | false, true, false => !c
  | false, true, true => c
  | true, false, false => c
  | true, false, true => !c
  | true, true, false => !c
  | true, true, true => c

end Sys2Proof.Machine
end

