-- ==== Sys2Proof/Machine/State.lean ====
section
/-! DEFINITION. The state of the engine (spec 10), the events a step reports (60 R851 to R856), and the state right
after `Reset()` (10 R58, 70 R900, R901). Every field is plain data. The accessors of the registers stand in
Sys2Proof/Machine/Ops.lean. -/

namespace Sys2Proof.Machine

/-- The memory behind the collaborator (20 R80): the bytes that differ from what an unlisted address reads as, in one
canonical form, addresses strictly rising (`Memory.wf`). -/
abbrev Memory := List Host.Cell

/-- A recorded compact delayed branch (10 R54, 49 R826). `tagged` says that the target is committed by `SetPCTagged`. -/
structure Pending where
  target : Quad
  tagged : Bool
  deriving DecidableEq, Repr

/-- The dispatch state (10 R55, 49 R822). -/
inductive DState where
  | fetching
  | executing
  | faulted
  | trapped
  deriving DecidableEq, Repr

/-- The code of an explicit trap (60 R853): `trapa` with its operand, or the breakpoint. -/
inductive TrapCode where
  | trapa (n : Quad)
  | brk
  deriving DecidableEq, Repr

/-- What one step reports to the host (60 R855). Every `pc` and `nextPc` is mode-tagged; `addr` is a byte address. -/
inductive TrapReason where
  /-- The step completed normally. -/
  | none
  /-- 60 R851. -/
  | invalidInstruction (pc : Quad)
  /-- 60 R852. -/
  | memoryFault (addr pc : Quad)
  /-- 60 R853. -/
  | explicitTrap (code : TrapCode) (nextPc : Quad)
  deriving DecidableEq, Repr

/-- Why the spec gives an instruction no meaning (60 R856). -/
inductive RefuseReason where
  /-- `movco.l` under `MOVCO_MODE = refuse` (41 R347). -/
  | movco
  /-- `movli.l` under `MOVCO_MODE = refuse` (41 R348). -/
  | movli
  /-- A disp12 form with the top bit of its displacement set (41 R304). -/
  | disp12
  /-- Media `rte`: the engine has no exception return (47 R701). -/
  | exceptionReturn
  /-- Media `sleep`: the engine has no power state (47 R702). -/
  | powerState
  /-- Media `getcfg` and `putcfg`: the engine has no configuration space (46 R670, R671). -/
  | configSpace
  /-- A read of a register bit that nothing has written since `Reset()`, under `RESET_STATE = unwritten` (70 R902). -/
  | unwritten
  deriving DecidableEq, Repr

/-- The sticky `refused` mark: the reason and the tagged pc (60 R856). -/
structure RefusedMark where
  reason : RefuseReason
  pc : Quad
  deriving DecidableEq, Repr

/-- The written masks of 70 R902: for each bit of the physical storage, whether it was written since `Reset()`. GR[63] has
none: it is never unwritten. The separate GBR, MACH, MACL, PR and FPUL count under `COMPACT_ALIAS = separate` only. -/
structure Written where
  gr : Vector Quad 63
  sr : Word
  cr : Vector Quad 63
  tr : Vector Quad 8
  fr : Vector Word 64
  fpscr : Word
  vbr : Word
  gbr : Word
  mach : Word
  macl : Word
  pr : Word
  fpul : Word
  pc : Quad
  ism : BitVec 1
  deriving DecidableEq, Repr

/-- Every bit is unwritten: after `Reset()` under `RESET_STATE = unwritten` (70 R902). -/
def Written.none : Written where
  gr := Vector.replicate 63 0
  sr := 0
  cr := Vector.replicate 63 0
  tr := Vector.replicate 8 0
  fr := Vector.replicate 64 0
  fpscr := 0
  vbr := 0
  gbr := 0
  mach := 0
  macl := 0
  pr := 0
  fpul := 0
  pc := 0
  ism := 0

/-- Every bit is written: after `Reset()` under `RESET_STATE = zero`, where every register has a value (70 R901). -/
def Written.all : Written where
  gr := Vector.replicate 63 (BitVec.allOnes 64)
  sr := BitVec.allOnes 32
  cr := Vector.replicate 63 (BitVec.allOnes 64)
  tr := Vector.replicate 8 (BitVec.allOnes 64)
  fr := Vector.replicate 64 (BitVec.allOnes 32)
  fpscr := BitVec.allOnes 32
  vbr := BitVec.allOnes 32
  gbr := BitVec.allOnes 32
  mach := BitVec.allOnes 32
  macl := BitVec.allOnes 32
  pr := BitVec.allOnes 32
  fpul := BitVec.allOnes 32
  pc := BitVec.allOnes 64
  ism := 1

/-- The state of the engine. Fields marked MODEL are the model's own; every other field is one the spec names. -/
structure State where
  /-- GR[0] to GR[62] (10 R30). GR[63] has no storage: it reads 0 and discards writes (10 R32). -/
  gr : Vector Quad 63
  /-- SR, which is CR[0] (10 R35). T, S, Q and M are its bits 0, 1, 8 and 9 (10 R36). -/
  sr : Word
  /-- CR[1] to CR[63], CR[k] at index k - 1 (10 R34). -/
  cr : Vector Quad 63
  /-- TR[0] to TR[7] (10 R45). -/
  tr : Vector Quad 8
  /-- FR[0] to FR[63], raw patterns (10 R46). -/
  fr : Vector Word 64
  /-- FPSCR (10 R48). -/
  fpscr : Word
  /-- VBR, a register of its own under both storages (10 R39). -/
  vbr : Word
  /-- GBR under `COMPACT_ALIAS = separate` (10 R38); under `aliased` nothing reads or writes it. -/
  gbr : Word
  /-- MACH under `separate` (10 R38). -/
  mach : Word
  /-- MACL under `separate` (10 R38). -/
  macl : Word
  /-- PR under `separate` (10 R38). -/
  pr : Word
  /-- FPUL under `separate` (10 R51). -/
  fpul : Word
  /-- PC (10 R40). -/
  pc : Quad
  /-- The instruction-set mode (10 R41). -/
  ism : Ism
  /-- The endian bit (10 R44): set at construction, written by no instruction. -/
  endian : Endian
  /-- The delay-slot state `pending` (10 R54). -/
  pending : Option Pending
  /-- The dispatch state (10 R55). -/
  dstate : DState
  /-- What the last step reported to the host: the return value of `Step()` (60 R855, 49 R833). -/
  event : TrapReason
  /-- The sticky `refused` mark (60 R856). -/
  refused : Option RefusedMark
  /-- The memory behind the collaborator (20 R80). -/
  mem : Memory
  /-- The parameters of 00 R8 that are plain data, fixed for a run. -/
  params : Params
  /-- The written masks (70 R902). They are read and changed under `RESET_STATE = unwritten` only. -/
  written : Written
  /-- MODEL: how many values of `MACH_SAT` have been drawn (40 R230); the next draw is `Config.machSat draws`. -/
  draws : Nat
  deriving DecidableEq, Repr

/-- How the machine stops with a fault. -/
inductive Fault where
  /-- Raised by nobody: no state of the engine stops it, and after any event a step is defined (60 R858). Every event of
  60 R855 is a next state. Safe. -/
  | engineHalt
  deriving DecidableEq, Repr

/-- How the machine answers without a meaning. -/
inductive Refusal where
  /-- Raised by an arm of `exec` whose instruction is not modelled yet, with its mnemonic. Safe. -/
  | notModelled (mnemonic : String)
  deriving DecidableEq, Repr

/-- The state right after `Reset()` with `RESET_STATE = zero` (70 R900, R901): every register is 0, PC is 0, the mode is
compact, nothing is pending, and memory lists nothing. -/
def State.reset : State where
  gr := Vector.replicate 63 0
  sr := 0
  cr := Vector.replicate 63 0
  tr := Vector.replicate 8 0
  fr := Vector.replicate 64 0
  fpscr := 0
  vbr := 0
  gbr := 0
  mach := 0
  macl := 0
  pr := 0
  fpul := 0
  pc := 0
  ism := .compact
  endian := .big
  pending := none
  dstate := .fetching
  event := .none
  refused := none
  mem := []
  params := Params.decided
  written := Written.all
  draws := 0

end Sys2Proof.Machine
end

