-- ==== Sys2Proof/Machine/Memory.lean ====
section
/-! DEFINITION. Memory as data: reading and writing bytes in the canonical form, values of 2, 4 and 8 bytes, and the
map `MEM` (spec 20). -/

namespace Sys2Proof.Machine

/-- The canonical form: addresses strictly rising, every address below 2^64, no entry equal to what an unlisted address
reads as. -/
def Memory.wf : Memory → Bool
  | [] => true
  | [(a, b)] => decide (a < 2 ^ 64) && b != 0
  | (a, b) :: (a', b') :: m => decide (a < a') && b != 0 && Memory.wf ((a', b') :: m)

/-- What an unlisted address reads as. DESIGN CHOICE (log 3): zero. -/
def Memory.unlisted : Byte := 0

/-- The byte at an address. -/
def Memory.get : Memory → Nat → Byte
  | [], _ => Memory.unlisted
  | (a, b) :: m, x => if a = x then b else Memory.get m x

/-- The memory with no entry at an address. -/
def Memory.erase (m : Memory) (x : Nat) : Memory := m.filter fun c => c.1 != x

/-- An entry put in its place. -/
def Memory.insert : Memory → Nat → Byte → Memory
  | [], x, b => [(x, b)]
  | (a, c) :: m, x, b => if x < a then (x, b) :: (a, c) :: m else (a, c) :: Memory.insert m x b

/-- Writing one byte. -/
def Memory.set (m : Memory) (x : Nat) (b : Byte) : Memory :=
  if b = Memory.unlisted then m.erase x else (m.erase x).insert x b

/-- `MemRead8` as a pure read (00 R12). -/
def Memory.read8 (m : Memory) (a : Quad) : Byte := m.get a.toNat

/-- `MemRead(a, 2)` as a pure read (20 R81). Addresses wrap modulo 2^64. -/
def Memory.read16 (m : Memory) (e : Endian) (a : Quad) : Half :=
  join16 e (m.read8 a) (m.read8 (a + 1))

/-- `MemRead(a, 4)` as a pure read (20 R81). -/
def Memory.read32 (m : Memory) (e : Endian) (a : Quad) : Word :=
  join32 e (m.read16 e a) (m.read16 e (a + 2))

/-- `MemRead(a, 8)` as a pure read (20 R81). -/
def Memory.read64 (m : Memory) (e : Endian) (a : Quad) : Quad :=
  join64 e (m.read32 e a) (m.read32 e (a + 4))

/-- `MemWrite8` as a pure write (00 R12). -/
def Memory.write8 (m : Memory) (a : Quad) (b : Byte) : Memory := m.set a.toNat b

/-- Writing bytes at rising addresses, the first at `a`. -/
def Memory.writeBytes (m : Memory) (a : Quad) : List Byte → Memory
  | [] => m
  | b :: bs => Memory.writeBytes (m.write8 a b) (a + 1) bs

/-- `MemWrite(a, 2, v)` as a pure write (20 R81). -/
def Memory.write16 (m : Memory) (e : Endian) (a : Quad) (v : Half) : Memory := m.writeBytes a (bytes16 e v)

/-- `MemWrite(a, 4, v)` as a pure write (20 R81). -/
def Memory.write32 (m : Memory) (e : Endian) (a : Quad) (v : Word) : Memory := m.writeBytes a (bytes32 e v)

/-- `MemWrite(a, 8, v)` as a pure write (20 R81). -/
def Memory.write64 (m : Memory) (e : Endian) (a : Quad) (v : Quad) : Memory := m.writeBytes a (bytes64 e v)

/-- Whether the byte at `a` is in the readable set of `MEM` (20 R83). -/
def canRead (p : Params) (a : Quad) : Bool :=
  p.mem.any fun r => r.readable && decide (r.base ≤ a.toNat) && decide (a.toNat < r.base + r.size)

/-- Whether the byte at `a` is in the writable set of `MEM` (20 R83). -/
def canWrite (p : Params) (a : Quad) : Bool :=
  p.mem.any fun r => r.writable && decide (r.base ≤ a.toNat) && decide (a.toNat < r.base + r.size)

/-- The address among the `n` bytes from `a` that the predicate `ok` lets fail first, if any. -/
def firstBad (ok : Quad → Bool) (a : Quad) : Nat → Option Quad
  | 0 => none
  | n + 1 => if ok a then firstBad ok (a + 1) n else some a

/-- The address with which an access of `n` bytes at `a` faults, if it does (20 R83, R85). An aligned access that touches
any byte outside `MEM` faults with `a`. A misaligned one faults with `a` under `MISALIGNED = fault`; under `split` it is
`n` one-byte accesses, and the first that fails gives its own address. -/
def accessFault (p : Params) (ok : Quad → Bool) (a : Quad) (n : Nat) : Option Quad :=
  if a.toNat % n = 0 then
    if (firstBad ok a n).isSome then some a else none
  else
    match p.misaligned with
    | .fault => some a
    | .split => firstBad ok a n

end Sys2Proof.Machine
end

