-- ==== Sys2Proof/Machine/Ops.lean ====
section
/-! DEFINITION. The named operations every meaning is written with: registers and flags (spec 10), taking each of the
three events and completing normally (60 R851 to R853, 49 R820, R822), the compact delayed branch (49 R826), and the
checked memory accesses (20 R83 to R89). -/

namespace Sys2Proof.Machine

/-- What `exec` and every meaning answer. -/
abbrev Result := Host.Outcome State Fault Refusal

/-! ### General registers -/

/-- `GetGR(i)` in the media view: GR[63] reads 0 (10 R30, R32). -/
def State.g (s : State) (i : MReg) : Quad := s.gr.getD i.toNat 0

/-- `SetGR(i, v)` in the media view: a write to GR[63] is discarded (10 R30, R32). -/
def State.setG (s : State) (i : MReg) (v : Quad) : State :=
  { s with gr := s.gr.setIfInBounds i.toNat v }

/-- The media number of a compact register field (10 R33). -/
def creg (n : CReg) : MReg := n.setWidth 6

/-- `GetGRC(n)`: the low 32 bits (10 R31). -/
def State.r (s : State) (n : CReg) : Word := low32 (s.g (creg n))

/-- `SetGRC(n, v)`: the sign-extended value replaces all 64 bits (10 R31). -/
def State.setR (s : State) (n : CReg) (v : Word) : State := s.setG (creg n) (sext64 v)

/-! ### Status register and control registers -/

/-- The T flag (10 R36). -/
def State.flagT (s : State) : Bool := s.sr.getLsbD 0

/-- The S flag (10 R36). -/
def State.flagS (s : State) : Bool := s.sr.getLsbD 1

/-- The Q flag (10 R36). -/
def State.flagQ (s : State) : Bool := s.sr.getLsbD 8

/-- The M flag (10 R36). -/
def State.flagM (s : State) : Bool := s.sr.getLsbD 9

/-- Writing T writes SR bit 0 alone (10 R36). -/
def State.setT (s : State) (b : Bool) : State := { s with sr := setBit s.sr 0 b }

/-- Writing S writes SR bit 1 alone (10 R36). -/
def State.setS (s : State) (b : Bool) : State := { s with sr := setBit s.sr 1 b }

/-- Writing Q writes SR bit 8 alone (10 R36). -/
def State.setQ (s : State) (b : Bool) : State := { s with sr := setBit s.sr 8 b }

/-- Writing M writes SR bit 9 alone (10 R36). -/
def State.setM (s : State) (b : Bool) : State := { s with sr := setBit s.sr 9 b }

/-- Reading `CR[k]`: SR zero-extended for k = 0, plain storage for the others (10 R34, R35). -/
def State.c (s : State) (k : MReg) : Quad :=
  if k = 0 then zext64 s.sr else s.cr.getD (k.toNat - 1) 0

/-- Writing `CR[k]`: the low 32 bits to SR for k = 0, plain storage for the others (10 R34, R35). -/
def State.setC (s : State) (k : MReg) (v : Quad) : State :=
  if k = 0 then { s with sr := low32 v } else { s with cr := s.cr.setIfInBounds (k.toNat - 1) v }

/-- `GetTR(t)` (10 R45). -/
def State.t (s : State) (t : TReg) : Quad := s.tr.getD t.toNat 0

/-- `SetTR(t, v)` (10 R45). -/
def State.setTr (s : State) (t : TReg) (v : Quad) : State := { s with tr := s.tr.setIfInBounds t.toNat v }

/-! ### Floating-point registers -/

/-- `FR[f]` (10 R46). -/
def State.f (s : State) (i : MReg) : Word := s.fr.getD i.toNat 0

/-- Writing `FR[f]` (10 R46). -/
def State.setF (s : State) (i : MReg) (v : Word) : State := { s with fr := s.fr.setIfInBounds i.toNat v }

/-- The pair `FR[f] : FR[f+1]`, `FR[f]` high (10 R47). -/
def State.d (s : State) (i : MReg) : Quad := s.f i ++ s.f (i + 1)

/-- Writing the pair `FR[f] : FR[f+1]` (10 R47). -/
def State.setD (s : State) (i : MReg) (v : Quad) : State := (s.setF i (high32 v)).setF (i + 1) (low32 v)

/-- FPSCR.PR: double precision for the compact float operations (10 R48, R53). -/
def State.fpPR (s : State) : Bool := s.fpscr.getLsbD 19

/-- FPSCR.SZ: 64-bit transfers (10 R48, R52). -/
def State.fpSZ (s : State) : Bool := s.fpscr.getLsbD 20

/-- FPSCR.FR: the compact bank (10 R48, R50). -/
def State.fpFR (s : State) : Bool := s.fpscr.getLsbD 21

/-- A write to FPSCR stores bits 21:0 and clears bits 31:22 (10 R49). -/
def State.setFpscr (s : State) (v : Word) : State := { s with fpscr := v &&& 0x003FFFFF#32 }

/-! ### Compact special registers (10 R38, R39, R51) -/

/-- Reading GBR. -/
def State.getGbr (s : State) : Word :=
  match s.params.storage with
  | .aliased => low32 (s.g 16)
  | .separate => s.gbr

/-- Writing GBR. -/
def State.setGbr (s : State) (v : Word) : State :=
  match s.params.storage with
  | .aliased => s.setG 16 (sext64 v)
  | .separate => { s with gbr := v }

/-- Reading MACL. -/
def State.getMacl (s : State) : Word :=
  match s.params.storage with
  | .aliased => low32 (s.g 17)
  | .separate => s.macl

/-- Writing MACL: under `aliased` the high half of GR[17] keeps its value. -/
def State.setMacl (s : State) (v : Word) : State :=
  match s.params.storage with
  | .aliased => s.setG 17 (high32 (s.g 17) ++ v)
  | .separate => { s with macl := v }

/-- Reading MACH. -/
def State.getMach (s : State) : Word :=
  match s.params.storage with
  | .aliased => high32 (s.g 17)
  | .separate => s.mach

/-- Writing MACH: under `aliased` the low half of GR[17] keeps its value. -/
def State.setMach (s : State) (v : Word) : State :=
  match s.params.storage with
  | .aliased => s.setG 17 (v ++ low32 (s.g 17))
  | .separate => { s with mach := v }

/-- The 64-bit accumulator `MACH:MACL`. -/
def State.getMac (s : State) : Quad := s.getMach ++ s.getMacl

/-- Writing the accumulator `MACH:MACL`. -/
def State.setMac (s : State) (v : Quad) : State := (s.setMach (high32 v)).setMacl (low32 v)

/-- Reading PR, the procedure register. -/
def State.getPr (s : State) : Word :=
  match s.params.storage with
  | .aliased => low32 (s.g 18)
  | .separate => s.pr

/-- Writing PR, the procedure register. -/
def State.setPr (s : State) (v : Word) : State :=
  match s.params.storage with
  | .aliased => s.setG 18 (sext64 v)
  | .separate => { s with pr := v }

/-- Reading FPUL. -/
def State.getFpul (s : State) : Word :=
  match s.params.storage with
  | .aliased => s.f 32
  | .separate => s.fpul

/-- Writing FPUL. -/
def State.setFpul (s : State) (v : Word) : State :=
  match s.params.storage with
  | .aliased => s.setF 32 v
  | .separate => { s with fpul := v }

/-- Writing VBR (10 R39). -/
def State.setVbr (s : State) (v : Word) : State := { s with vbr := v }

/-! ### Program counter and mode -/

/-- The bit value of the mode: 1 is media (10 R41). -/
def ismBit : Ism → BitVec 1
  | .compact => 0
  | .media => 1

/-- The mode a mode-tagged address selects by its bit 0 (10 R42). -/
def ismOfTag (v : Quad) : Ism := if v.getLsbD 0 then .media else .compact

/-- The mode-tagged form of an address: bits 63:1, and the mode as bit 0 (10 R42). -/
def tagPc (pc : Quad) (m : Ism) : Quad := pc.extractLsb' 1 63 ++ ismBit m

/-- `TaggedPC()` (10 R42). -/
def State.taggedPC (s : State) : Quad := tagPc s.pc s.ism

/-- `SetPCTagged(v)` (10 R42). -/
def State.setPCTagged (s : State) (v : Quad) : State :=
  { s with ism := ismOfTag v, pc := v.extractLsb' 1 63 ++ 0#1 }

/-- `pc <- target` (00 R13). -/
def State.setPC (s : State) (target : Quad) : State := { s with pc := target }

/-! ### How an instruction ends -/

/-- Normal completion: the dispatch state returns to `Fetching` and nothing is reported (49 R820, R822). -/
def State.complete (s : State) : Result := .next { s with dstate := .fetching, event := .none }

/-- Completion with the next PC `PC + size` (10 R40). -/
def State.retire (s : State) (size : Quad) : Result := (s.setPC (s.pc + size)).complete

/-- A reported fault: nothing changes but the dispatch state and the report (60 R851, R852). -/
def State.fault (s : State) (e : TrapReason) : Result := .next { s with dstate := .faulted, event := e }

/-- `raise InvalidInstruction(pc)` (60 R851). -/
def State.invalid (s : State) : Result := s.fault (.invalidInstruction s.taggedPC)

/-- `raise MemoryFault(addr, pc)` (60 R852). -/
def State.memoryFault (s : State) (addr : Quad) : Result := s.fault (.memoryFault addr s.taggedPC)

/-- `refuse <reason>`: reported as `InvalidInstruction`, with the sticky mark (60 R856). DEDUCED (log 13): a mark that is already
set stays, and its pc is the tagged one. -/
def State.refuse (s : State) (why : RefuseReason) : Result :=
  State.invalid { s with refused := some (s.refused.getD ⟨why, s.taggedPC⟩) }

/-- `raise ExplicitTrap(code, next_pc)`: PC advances, nothing else changes, and the trap is reported with the tagged
next PC (60 R853). -/
def State.trap (s : State) (code : TrapCode) (size : Quad) : Result :=
  .next { s with
    pc := s.pc + size
    dstate := .trapped
    event := .explicitTrap code (tagPc (s.pc + size) s.ism) }

/-- `DelayedBranch(target, tagged)`: the branch is recorded and control goes on to the slot (49 R826, 42 R371). -/
def State.delayedBranch (s : State) (target : Quad) (tagged : Bool) : Result :=
  State.retire { s with pending := some ⟨target, tagged⟩ } 2

/-- `CommitPending()`: the recorded target overrides the next PC of the slot (49 R826). -/
def State.commitPending (s : State) : State :=
  match s.pending with
  | none => s
  | some p =>
    if p.tagged then { s.setPCTagged p.target with pending := none }
    else { s.setPC p.target with pending := none }

/-! ### Memory accesses -/

/-- The pure reads in the byte order of the endian bit (20 R81). -/
def State.read8 (s : State) (a : Quad) : Byte := s.mem.read8 a

/-- `MemRead(a, 2)` once the access is allowed. -/
def State.read16 (s : State) (a : Quad) : Half := s.mem.read16 s.endian a

/-- `MemRead(a, 4)` once the access is allowed. -/
def State.read32 (s : State) (a : Quad) : Word := s.mem.read32 s.endian a

/-- `MemRead(a, 8)` once the access is allowed. -/
def State.read64 (s : State) (a : Quad) : Quad := s.mem.read64 s.endian a

/-- `MemWrite8(a, b)` once the access is allowed. -/
def State.write8 (s : State) (a : Quad) (b : Byte) : State := { s with mem := s.mem.write8 a b }

/-- `MemWrite(a, 2, v)` once the access is allowed. -/
def State.write16 (s : State) (a : Quad) (v : Half) : State := { s with mem := s.mem.write16 s.endian a v }

/-- `MemWrite(a, 4, v)` once the access is allowed. -/
def State.write32 (s : State) (a : Quad) (v : Word) : State := { s with mem := s.mem.write32 s.endian a v }

/-- `MemWrite(a, 8, v)` once the access is allowed. -/
def State.write64 (s : State) (a : Quad) (v : Quad) : State := { s with mem := s.mem.write64 s.endian a v }

/-- The address with which a read of `n` bytes at `a` faults, if it does. -/
def State.readFault (s : State) (a : Quad) (n : Nat) : Option Quad := accessFault s.params (canRead s.params) a n

/-- The address with which a write of `n` bytes at `a` faults, if it does. -/
def State.writeFault (s : State) (a : Quad) (n : Nat) : Option Quad := accessFault s.params (canWrite s.params) a n

/-- Go on only if a read of `n` bytes at `a` is allowed (20 R88). -/
def State.checkRead (s : State) (a : Quad) (n : Nat) (k : Result) : Result :=
  match s.readFault a n with
  | some x => s.memoryFault x
  | none => k

/-- Go on only if a write of `n` bytes at `a` is allowed (20 R88, R89). -/
def State.checkWrite (s : State) (a : Quad) (n : Nat) (k : Result) : Result :=
  match s.writeFault a n with
  | some x => s.memoryFault x
  | none => k

/-- Go on only if one-byte accesses at each address of the list are allowed (20 R86, R88). -/
def State.checkReads (s : State) (as : List Quad) (k : Result) : Result :=
  as.foldr (fun a k => s.checkRead a 1 k) k

/-- Go on only if one-byte writes at each address of the list are allowed (20 R86, R88). -/
def State.checkWrites (s : State) (as : List Quad) (k : Result) : Result :=
  as.foldr (fun a k => s.checkWrite a 1 k) k

/-- A one-byte read. -/
def State.load8 (s : State) (a : Quad) (k : Byte → Result) : Result := s.checkRead a 1 (k (s.read8 a))

/-- A two-byte read. -/
def State.load16 (s : State) (a : Quad) (k : Half → Result) : Result := s.checkRead a 2 (k (s.read16 a))

/-- A four-byte read. -/
def State.load32 (s : State) (a : Quad) (k : Word → Result) : Result := s.checkRead a 4 (k (s.read32 a))

/-- An eight-byte read. -/
def State.load64 (s : State) (a : Quad) (k : Quad → Result) : Result := s.checkRead a 8 (k (s.read64 a))

/-! ### Shapes shared by many instructions -/

/-- A compact instruction that writes one register. -/
def State.putR (s : State) (n : CReg) (v : Word) : Result := (s.setR n v).retire 2

/-- A compact instruction that writes T alone. -/
def State.putT (s : State) (b : Bool) : Result := (s.setT b).retire 2

/-- A compact instruction that writes one register and T. -/
def State.putRT (s : State) (n : CReg) (v : Word) (b : Bool) : Result := ((s.setR n v).setT b).retire 2

/-- A compact load that post-increments its base by `size`: with `m = n` the loaded value wins (41 R302). -/
def State.putInc (s : State) (m n : CReg) (size v : Word) : Result :=
  ((if m = n then s else s.setR m (s.r m + size)).setR n v).retire 2

/-- A one-byte store with the next PC `PC + 2`. -/
def State.store8 (s : State) (a : Quad) (v : Byte) : Result := s.checkWrite a 1 ((s.write8 a v).retire 2)

/-- A two-byte store with the next PC `PC + 2`. -/
def State.store16 (s : State) (a : Quad) (v : Half) : Result := s.checkWrite a 2 ((s.write16 a v).retire 2)

/-- A four-byte store with the next PC `PC + 2`. -/
def State.store32 (s : State) (a : Quad) (v : Word) : Result := s.checkWrite a 4 ((s.write32 a v).retire 2)

/-- A read-modify-write of one byte: both accesses are allowed before the byte is written (20 R89, R95). -/
def State.modify8 (s : State) (a : Quad) (f : Byte → Byte) : Result := s.load8 a fun b => s.store8 a (f b)

/-- A compact load of a special register through `@Rm+`: the base is incremented, then `f` takes the long (42 R395). -/
def State.popWith (s : State) (m : CReg) (f : State → Word → State) : Result :=
  s.load32 (sext64 (s.r m)) fun v => (f (s.setR m (s.r m + 4)) v).retire 2

/-- A compact store of a long through `@-Rn`, which then takes the decremented address (42 R405). -/
def State.push (s : State) (n : CReg) (v : Word) : Result :=
  s.checkWrite (sext64 (s.r n - 4)) 4 (((s.write32 (sext64 (s.r n - 4)) v).setR n (s.r n - 4)).retire 2)

/-- A media instruction that writes one general register. -/
def State.putG (s : State) (d : MReg) (v : Quad) : Result := (s.setG d v).retire 4

end Sys2Proof.Machine
end

