-- ==== Sys2Proof/Syntax.lean ====
section
/-! DEFINITION. The instructions: one constructor for each row of spec/opcode_table.json. A constructor that begins with
`c` is a row of the compact encoding (196 rows, spec 40 to 43), one that begins with `m` a row of the media encoding
(208 rows, spec 44 to 48). The arguments are the fields of the encoding, raw, in the order of the assembler (30 R127):
sources first, destination last. `imm` and `disp` are immediates and displacements before extension and scaling (30
R116, R119), `l` is the likely bit (30 R120), `a` and `b` name target registers. -/

namespace Sys2Proof

/-- One instruction of either encoding. -/
inductive Instr where
  -- spec 40_compact_alu.md
  /-- `add Rm,Rn` (40 R205). -/
  | cAdd (m n : CReg)
  /-- `add #imm,Rn` (40 R206). -/
  | cAddImm (imm : BitVec 8) (n : CReg)
  /-- `addc Rm,Rn` (40 R207). -/
  | cAddc (m n : CReg)
  /-- `addv Rm,Rn` (40 R208). -/
  | cAddv (m n : CReg)
  /-- `cmp/eq #imm,R0` (40 R209). -/
  | cCmpEqImm (imm : BitVec 8)
  /-- `cmp/eq Rm,Rn` (40 R210). -/
  | cCmpEq (m n : CReg)
  /-- `cmp/hs Rm,Rn` (40 R211). -/
  | cCmpHs (m n : CReg)
  /-- `cmp/ge Rm,Rn` (40 R212). -/
  | cCmpGe (m n : CReg)
  /-- `cmp/hi Rm,Rn` (40 R213). -/
  | cCmpHi (m n : CReg)
  /-- `cmp/gt Rm,Rn` (40 R214). -/
  | cCmpGt (m n : CReg)
  /-- `cmp/pz Rn` (40 R215). -/
  | cCmpPz (n : CReg)
  /-- `cmp/pl Rn` (40 R216). -/
  | cCmpPl (n : CReg)
  /-- `cmp/str Rm,Rn` (40 R217). -/
  | cCmpStr (m n : CReg)
  /-- `div0s Rm,Rn` (40 R218). -/
  | cDiv0s (m n : CReg)
  /-- `div0u` (40 R219). -/
  | cDiv0u
  /-- `div1 Rm,Rn` (40 R220). -/
  | cDiv1 (m n : CReg)
  /-- `divu R0,Rn` (40 R221). -/
  | cDivu (n : CReg)
  /-- `dmuls.l Rm,Rn` (40 R222). -/
  | cDmulsL (m n : CReg)
  /-- `dmulu.l Rm,Rn` (40 R223). -/
  | cDmuluL (m n : CReg)
  /-- `dt Rn` (40 R224). -/
  | cDt (n : CReg)
  /-- `exts.b Rm,Rn` (40 R225). -/
  | cExtsB (m n : CReg)
  /-- `exts.w Rm,Rn` (40 R226). -/
  | cExtsW (m n : CReg)
  /-- `extu.b Rm,Rn` (40 R227). -/
  | cExtuB (m n : CReg)
  /-- `extu.w Rm,Rn` (40 R228). -/
  | cExtuW (m n : CReg)
  /-- `mac.l @Rm+,@Rn+` (40 R229). -/
  | cMacL (m n : CReg)
  /-- `mac.w @Rm+,@Rn+` (40 R230). -/
  | cMacW (m n : CReg)
  /-- `mul.l Rm,Rn` (40 R231). -/
  | cMulL (m n : CReg)
  /-- `mulr R0,Rn` (40 R232). -/
  | cMulr (n : CReg)
  /-- `muls.w Rm,Rn` (40 R233). -/
  | cMulsW (m n : CReg)
  /-- `mulu.w Rm,Rn` (40 R234). -/
  | cMuluW (m n : CReg)
  /-- `neg Rm,Rn` (40 R235). -/
  | cNeg (m n : CReg)
  /-- `negc Rm,Rn` (40 R236). -/
  | cNegc (m n : CReg)
  /-- `sub Rm,Rn` (40 R237). -/
  | cSub (m n : CReg)
  /-- `subc Rm,Rn` (40 R238). -/
  | cSubc (m n : CReg)
  /-- `subv Rm,Rn` (40 R239). -/
  | cSubv (m n : CReg)
  /-- `and Rm,Rn` (40 R240). -/
  | cAnd (m n : CReg)
  /-- `and #imm,R0` (40 R241). -/
  | cAndImm (imm : BitVec 8)
  /-- `and.b #imm,@(R0,GBR)` (40 R242). -/
  | cAndB (imm : BitVec 8)
  /-- `not Rm,Rn` (40 R243). -/
  | cNot (m n : CReg)
  /-- `or Rm,Rn` (40 R244). -/
  | cOr (m n : CReg)
  /-- `or #imm,R0` (40 R245). -/
  | cOrImm (imm : BitVec 8)
  /-- `or.b #imm,@(R0,GBR)` (40 R246). -/
  | cOrB (imm : BitVec 8)
  /-- `tas.b @Rn` (40 R247). -/
  | cTasB (n : CReg)
  /-- `tst Rm,Rn` (40 R248). -/
  | cTst (m n : CReg)
  /-- `tst #imm,R0` (40 R249). -/
  | cTstImm (imm : BitVec 8)
  /-- `tst.b #imm,@(R0,GBR)` (40 R250). -/
  | cTstB (imm : BitVec 8)
  /-- `xor Rm,Rn` (40 R251). -/
  | cXor (m n : CReg)
  /-- `xor #imm,R0` (40 R252). -/
  | cXorImm (imm : BitVec 8)
  /-- `xor.b #imm,@(R0,GBR)` (40 R253). -/
  | cXorB (imm : BitVec 8)
  /-- `rotl Rn` (40 R254). -/
  | cRotl (n : CReg)
  /-- `rotr Rn` (40 R255). -/
  | cRotr (n : CReg)
  /-- `rotcl Rn` (40 R256). -/
  | cRotcl (n : CReg)
  /-- `rotcr Rn` (40 R257). -/
  | cRotcr (n : CReg)
  /-- `shad Rm,Rn` (40 R258). -/
  | cShad (m n : CReg)
  /-- `shal Rn` (40 R259). -/
  | cShal (n : CReg)
  /-- `shar Rn` (40 R260). -/
  | cShar (n : CReg)
  /-- `shld Rm,Rn` (40 R261). -/
  | cShld (m n : CReg)
  /-- `shll Rn` (40 R262). -/
  | cShll (n : CReg)
  /-- `shll2 Rn` (40 R263). -/
  | cShll2 (n : CReg)
  /-- `shll8 Rn` (40 R264). -/
  | cShll8 (n : CReg)
  /-- `shll16 Rn` (40 R265). -/
  | cShll16 (n : CReg)
  /-- `shlr Rn` (40 R266). -/
  | cShlr (n : CReg)
  /-- `shlr2 Rn` (40 R267). -/
  | cShlr2 (n : CReg)
  /-- `shlr8 Rn` (40 R268). -/
  | cShlr8 (n : CReg)
  /-- `shlr16 Rn` (40 R269). -/
  | cShlr16 (n : CReg)
  -- spec 41_compact_data.md
  /-- `mov Rm,Rn` (41 R305). -/
  | cMov (m n : CReg)
  /-- `mov #imm,Rn` (41 R306). -/
  | cMovImm (imm : BitVec 8) (n : CReg)
  /-- `movi20 #imm20,Rn` (41 R307). -/
  | cMovi20 (imm : BitVec 20) (n : CReg)
  /-- `movi20s #imm20,Rn` (41 R308). -/
  | cMovi20s (imm : BitVec 20) (n : CReg)
  /-- `mova @(disp,PC),R0` (41 R309). -/
  | cMova (disp : BitVec 8)
  /-- `mov.w @(disp,PC),Rn` (41 R310). -/
  | cMovWLoadPc (disp : BitVec 8) (n : CReg)
  /-- `mov.l @(disp,PC),Rn` (41 R311). -/
  | cMovLLoadPc (disp : BitVec 8) (n : CReg)
  /-- `mov.b @Rm,Rn` (41 R312). -/
  | cMovBLoad (m n : CReg)
  /-- `mov.w @Rm,Rn` (41 R313). -/
  | cMovWLoad (m n : CReg)
  /-- `mov.l @Rm,Rn` (41 R314). -/
  | cMovLLoad (m n : CReg)
  /-- `mov.b @Rm+,Rn` (41 R315). -/
  | cMovBLoadInc (m n : CReg)
  /-- `mov.w @Rm+,Rn` (41 R316). -/
  | cMovWLoadInc (m n : CReg)
  /-- `mov.l @Rm+,Rn` (41 R317). -/
  | cMovLLoadInc (m n : CReg)
  /-- `mov.b @(R0,Rm),Rn` (41 R318). -/
  | cMovBLoadIdx (m n : CReg)
  /-- `mov.w @(R0,Rm),Rn` (41 R319). -/
  | cMovWLoadIdx (m n : CReg)
  /-- `mov.l @(R0,Rm),Rn` (41 R320). -/
  | cMovLLoadIdx (m n : CReg)
  /-- `mov.b @(disp,Rm),R0` (41 R321). -/
  | cMovBLoadDisp (m : CReg) (disp : BitVec 4)
  /-- `mov.w @(disp,Rm),R0` (41 R322). -/
  | cMovWLoadDisp (m : CReg) (disp : BitVec 4)
  /-- `mov.l @(disp,Rm),Rn` (41 R323). -/
  | cMovLLoadDisp (m : CReg) (disp : BitVec 4) (n : CReg)
  /-- `mov.l @(disp12,Rm),Rn` (41 R324). -/
  | cMovLLoadDisp12 (m : CReg) (disp : BitVec 12) (n : CReg)
  /-- `mov.b @(disp,GBR),R0` (41 R325). -/
  | cMovBLoadGbr (disp : BitVec 8)
  /-- `mov.w @(disp,GBR),R0` (41 R326). -/
  | cMovWLoadGbr (disp : BitVec 8)
  /-- `mov.l @(disp,GBR),R0` (41 R327). -/
  | cMovLLoadGbr (disp : BitVec 8)
  /-- `movua.l @Rm,R0` (41 R328). -/
  | cMovuaL (m : CReg)
  /-- `movua.l @Rm+,R0` (41 R329). -/
  | cMovuaLInc (m : CReg)
  /-- `mov.b Rm,@Rn` (41 R330). -/
  | cMovBStore (m n : CReg)
  /-- `mov.w Rm,@Rn` (41 R331). -/
  | cMovWStore (m n : CReg)
  /-- `mov.l Rm,@Rn` (41 R332). -/
  | cMovLStore (m n : CReg)
  /-- `mov.b Rm,@-Rn` (41 R333). -/
  | cMovBStoreDec (m n : CReg)
  /-- `mov.w Rm,@-Rn` (41 R334). -/
  | cMovWStoreDec (m n : CReg)
  /-- `mov.l Rm,@-Rn` (41 R335). -/
  | cMovLStoreDec (m n : CReg)
  /-- `mov.b Rm,@(R0,Rn)` (41 R336). -/
  | cMovBStoreIdx (m n : CReg)
  /-- `mov.w Rm,@(R0,Rn)` (41 R337). -/
  | cMovWStoreIdx (m n : CReg)
  /-- `mov.l Rm,@(R0,Rn)` (41 R338). -/
  | cMovLStoreIdx (m n : CReg)
  /-- `mov.b R0,@(disp,Rn)` (41 R339). -/
  | cMovBStoreDisp (disp : BitVec 4) (n : CReg)
  /-- `mov.w R0,@(disp,Rn)` (41 R340). -/
  | cMovWStoreDisp (disp : BitVec 4) (n : CReg)
  /-- `mov.l Rm,@(disp,Rn)` (41 R341). -/
  | cMovLStoreDisp (m : CReg) (disp : BitVec 4) (n : CReg)
  /-- `mov.l Rm,@(disp12,Rn)` (41 R342). -/
  | cMovLStoreDisp12 (m : CReg) (disp : BitVec 12) (n : CReg)
  /-- `mov.b R0,@(disp,GBR)` (41 R343). -/
  | cMovBStoreGbr (disp : BitVec 8)
  /-- `mov.w R0,@(disp,GBR)` (41 R344). -/
  | cMovWStoreGbr (disp : BitVec 8)
  /-- `mov.l R0,@(disp,GBR)` (41 R345). -/
  | cMovLStoreGbr (disp : BitVec 8)
  /-- `movca.l R0,@Rn` (41 R346). -/
  | cMovcaL (n : CReg)
  /-- `movco.l R0,@Rn` (41 R347). -/
  | cMovcoL (n : CReg)
  /-- `movli.l @Rm,R0` (41 R348). -/
  | cMovliL (m : CReg)
  /-- `movt Rn` (41 R349). -/
  | cMovt (n : CReg)
  /-- `swap.b Rm,Rn` (41 R350). -/
  | cSwapB (m n : CReg)
  /-- `swap.w Rm,Rn` (41 R351). -/
  | cSwapW (m n : CReg)
  /-- `xtrct Rm,Rn` (41 R352). -/
  | cXtrct (m n : CReg)
  -- spec 42_compact_branch_system.md
  /-- `bf label` (42 R375). -/
  | cBf (disp : BitVec 8)
  /-- `bf/s label` (42 R376). -/
  | cBfS (disp : BitVec 8)
  /-- `bt label` (42 R377). -/
  | cBt (disp : BitVec 8)
  /-- `bt/s label` (42 R378). -/
  | cBtS (disp : BitVec 8)
  /-- `bra label` (42 R379). -/
  | cBra (disp : BitVec 12)
  /-- `braf Rm` (42 R380). -/
  | cBraf (m : CReg)
  /-- `bsr label` (42 R381). -/
  | cBsr (disp : BitVec 12)
  /-- `bsrf Rm` (42 R382). -/
  | cBsrf (m : CReg)
  /-- `jmp @Rm` (42 R383). -/
  | cJmp (m : CReg)
  /-- `jsr @Rm` (42 R384). -/
  | cJsr (m : CReg)
  /-- `rts` (42 R385). -/
  | cRts
  /-- `clrmac` (42 R386). -/
  | cClrmac
  /-- `clrs` (42 R387). -/
  | cClrs
  /-- `clrt` (42 R388). -/
  | cClrt
  /-- `sets` (42 R389). -/
  | cSets
  /-- `sett` (42 R390). -/
  | cSett
  /-- `nop` (42 R391). -/
  | cNop
  /-- `ldc Rm,SR` (42 R392). -/
  | cLdcSr (m : CReg)
  /-- `ldc Rm,GBR` (42 R393). -/
  | cLdcGbr (m : CReg)
  /-- `ldc Rm,VBR` (42 R394). -/
  | cLdcVbr (m : CReg)
  /-- `ldc.l @Rm+,GBR` (42 R395). -/
  | cLdcLGbr (m : CReg)
  /-- `ldc.l @Rm+,VBR` (42 R396). -/
  | cLdcLVbr (m : CReg)
  /-- `lds Rm,MACH` (42 R397). -/
  | cLdsMach (m : CReg)
  /-- `lds Rm,MACL` (42 R398). -/
  | cLdsMacl (m : CReg)
  /-- `lds Rm,PR` (42 R399). -/
  | cLdsPr (m : CReg)
  /-- `lds.l @Rm+,MACH` (42 R400). -/
  | cLdsLMach (m : CReg)
  /-- `lds.l @Rm+,MACL` (42 R401). -/
  | cLdsLMacl (m : CReg)
  /-- `lds.l @Rm+,PR` (42 R402). -/
  | cLdsLPr (m : CReg)
  /-- `stc GBR,Rn` (42 R403). -/
  | cStcGbr (n : CReg)
  /-- `stc VBR,Rn` (42 R404). -/
  | cStcVbr (n : CReg)
  /-- `stc.l GBR,@-Rn` (42 R405). -/
  | cStcLGbr (n : CReg)
  /-- `stc.l VBR,@-Rn` (42 R406). -/
  | cStcLVbr (n : CReg)
  /-- `sts MACH,Rn` (42 R407). -/
  | cStsMach (n : CReg)
  /-- `sts MACL,Rn` (42 R408). -/
  | cStsMacl (n : CReg)
  /-- `sts PR,Rn` (42 R409). -/
  | cStsPr (n : CReg)
  /-- `sts.l MACH,@-Rn` (42 R410). -/
  | cStsLMach (n : CReg)
  /-- `sts.l MACL,@-Rn` (42 R411). -/
  | cStsLMacl (n : CReg)
  /-- `sts.l PR,@-Rn` (42 R412). -/
  | cStsLPr (n : CReg)
  /-- `trapa #imm` (42 R413). -/
  | cTrapa (imm : BitVec 8)
  /-- `brk` (42 R414). -/
  | cBrk
  /-- `pref @Rn` (42 R415). -/
  | cPref (n : CReg)
  /-- `ocbi @Rn` (42 R416). -/
  | cOcbi (n : CReg)
  /-- `ocbp @Rn` (42 R417). -/
  | cOcbp (n : CReg)
  /-- `ocbwb @Rn` (42 R418). -/
  | cOcbwb (n : CReg)
  -- spec 43_compact_fpu.md
  /-- `fabs FRn / fabs DRn` (43 R435). -/
  | cFabs (n : CReg)
  /-- `fneg FRn / fneg DRn` (43 R436). -/
  | cFneg (n : CReg)
  /-- `fadd FRm,FRn / fadd DRm,DRn` (43 R437). -/
  | cFadd (m n : CReg)
  /-- `fsub FRm,FRn / fsub DRm,DRn` (43 R438). -/
  | cFsub (m n : CReg)
  /-- `fmul FRm,FRn / fmul DRm,DRn` (43 R439). -/
  | cFmul (m n : CReg)
  /-- `fdiv FRm,FRn / fdiv DRm,DRn` (43 R440). -/
  | cFdiv (m n : CReg)
  /-- `fsqrt FRn / fsqrt DRn` (43 R441). -/
  | cFsqrt (n : CReg)
  /-- `fcmp/eq FRm,FRn / fcmp/eq DRm,DRn` (43 R442). -/
  | cFcmpEq (m n : CReg)
  /-- `fcmp/gt FRm,FRn / fcmp/gt DRm,DRn` (43 R443). -/
  | cFcmpGt (m n : CReg)
  /-- `fmac FR0,FRm,FRn` (43 R444). -/
  | cFmac (m n : CReg)
  /-- `fldi0 FRn` (43 R445). -/
  | cFldi0 (n : CReg)
  /-- `fldi1 FRn` (43 R446). -/
  | cFldi1 (n : CReg)
  /-- `flds FRm,FPUL` (43 R447). -/
  | cFlds (m : CReg)
  /-- `fsts FPUL,FRn` (43 R448). -/
  | cFsts (n : CReg)
  /-- `float FPUL,FRn / float FPUL,DRn` (43 R449). -/
  | cFloat (n : CReg)
  /-- `ftrc FRm,FPUL / ftrc DRm,FPUL` (43 R450). -/
  | cFtrc (m : CReg)
  /-- `fcnvsd FPUL,DRn` (43 R451). -/
  | cFcnvsd (n : BitVec 3)
  /-- `fcnvds DRm,FPUL` (43 R452). -/
  | cFcnvds (m : BitVec 3)
  /-- `fipr FVm,FVn` (43 R453). -/
  | cFipr (m n : BitVec 2)
  /-- `ftrv XMTRX,FVn` (43 R454). -/
  | cFtrv (n : BitVec 2)
  /-- `frchg` (43 R455). -/
  | cFrchg
  /-- `fschg` (43 R456). -/
  | cFschg
  /-- `fmov FRm,FRn / fmov DRm|XDm,DRn|XDn` (43 R457). -/
  | cFmov (m n : CReg)
  /-- `fmov.s @Rm,FRn / fmov.d @Rm,DRn|XDn` (43 R458). -/
  | cFmovLoad (m n : CReg)
  /-- `fmov.s @Rm+,FRn / fmov.d @Rm+,DRn|XDn` (43 R459). -/
  | cFmovLoadInc (m n : CReg)
  /-- `fmov.s @(R0,Rm),FRn / fmov.d @(R0,Rm),DRn|XDn` (43 R460). -/
  | cFmovLoadIdx (m n : CReg)
  /-- `fmov.d @(disp12,Rm),DRn` (43 R461). -/
  | cFmovLoadDisp12 (m : CReg) (disp : BitVec 12) (n : BitVec 3)
  /-- `fmov.s FRm,@Rn / fmov.d DRm|XDm,@Rn` (43 R462). -/
  | cFmovStore (m n : CReg)
  /-- `fmov.s FRm,@-Rn / fmov.d DRm|XDm,@-Rn` (43 R463). -/
  | cFmovStoreDec (m n : CReg)
  /-- `fmov.s FRm,@(R0,Rn) / fmov.d DRm|XDm,@(R0,Rn)` (43 R464). -/
  | cFmovStoreIdx (m n : CReg)
  /-- `fmov.d DRm,@(disp12,Rn)` (43 R465). -/
  | cFmovStoreDisp12 (m : BitVec 3) (disp : BitVec 12) (n : CReg)
  /-- `lds Rm,FPSCR` (43 R466). -/
  | cLdsFpscr (m : CReg)
  /-- `lds Rm,FPUL` (43 R467). -/
  | cLdsFpul (m : CReg)
  /-- `lds.l @Rm+,FPSCR` (43 R468). -/
  | cLdsLFpscr (m : CReg)
  /-- `lds.l @Rm+,FPUL` (43 R469). -/
  | cLdsLFpul (m : CReg)
  /-- `sts FPSCR,Rn` (43 R470). -/
  | cStsFpscr (n : CReg)
  /-- `sts FPUL,Rn` (43 R471). -/
  | cStsFpul (n : CReg)
  /-- `sts.l FPSCR,@-Rn` (43 R472). -/
  | cStsLFpscr (n : CReg)
  /-- `sts.l FPUL,@-Rn` (43 R473). -/
  | cStsLFpul (n : CReg)
  -- spec 44_media_alu.md
  /-- `add Rm,Rn,Rd` (44 R503). -/
  | mAdd (m n d : MReg)
  /-- `add.l Rm,Rn,Rd` (44 R504). -/
  | mAddL (m n d : MReg)
  /-- `addi Rm,imm10,Rd` (44 R505). -/
  | mAddi (m : MReg) (imm : BitVec 10) (d : MReg)
  /-- `addi.l Rm,imm10,Rd` (44 R506). -/
  | mAddiL (m : MReg) (imm : BitVec 10) (d : MReg)
  /-- `addz.l Rm,Rn,Rd` (44 R507). -/
  | mAddzL (m n d : MReg)
  /-- `sub Rm,Rn,Rd` (44 R508). -/
  | mSub (m n d : MReg)
  /-- `sub.l Rm,Rn,Rd` (44 R509). -/
  | mSubL (m n d : MReg)
  /-- `and Rm,Rn,Rd` (44 R510). -/
  | mAnd (m n d : MReg)
  /-- `andc Rm,Rn,Rd` (44 R511). -/
  | mAndc (m n d : MReg)
  /-- `andi Rm,imm10,Rd` (44 R512). -/
  | mAndi (m : MReg) (imm : BitVec 10) (d : MReg)
  /-- `or Rm,Rn,Rd` (44 R513). -/
  | mOr (m n d : MReg)
  /-- `ori Rm,imm10,Rd` (44 R514). -/
  | mOri (m : MReg) (imm : BitVec 10) (d : MReg)
  /-- `xor Rm,Rn,Rd` (44 R515). -/
  | mXor (m n d : MReg)
  /-- `xori Rm,imm6,Rd` (44 R516). -/
  | mXori (m : MReg) (imm : BitVec 6) (d : MReg)
  /-- `cmpeq Rm,Rn,Rd` (44 R517). -/
  | mCmpeq (m n d : MReg)
  /-- `cmpgt Rm,Rn,Rd` (44 R518). -/
  | mCmpgt (m n d : MReg)
  /-- `cmpgtu Rm,Rn,Rd` (44 R519). -/
  | mCmpgtu (m n d : MReg)
  /-- `cmveq Rm,Rn,Rd` (44 R520). -/
  | mCmveq (m n d : MReg)
  /-- `cmvne Rm,Rn,Rd` (44 R521). -/
  | mCmvne (m n d : MReg)
  /-- `nsb Rm,Rd` (44 R522). -/
  | mNsb (m d : MReg)
  /-- `byterev Rm,Rd` (44 R523). -/
  | mByterev (m d : MReg)
  /-- `mulu.l Rm,Rn,Rd` (44 R524). -/
  | mMuluL (m n d : MReg)
  /-- `muls.l Rm,Rn,Rd` (44 R525). -/
  | mMulsL (m n d : MReg)
  /-- `shlld Rm,Rn,Rd` (44 R526). -/
  | mShlld (m n d : MReg)
  /-- `shlld.l Rm,Rn,Rd` (44 R527). -/
  | mShlldL (m n d : MReg)
  /-- `shlrd Rm,Rn,Rd` (44 R528). -/
  | mShlrd (m n d : MReg)
  /-- `shlrd.l Rm,Rn,Rd` (44 R529). -/
  | mShlrdL (m n d : MReg)
  /-- `shard Rm,Rn,Rd` (44 R530). -/
  | mShard (m n d : MReg)
  /-- `shard.l Rm,Rn,Rd` (44 R531). -/
  | mShardL (m n d : MReg)
  /-- `shlli Rm,imm6,Rd` (44 R532). -/
  | mShlli (m : MReg) (imm : BitVec 6) (d : MReg)
  /-- `shlli.l Rm,imm6,Rd` (44 R533). -/
  | mShlliL (m : MReg) (imm : BitVec 6) (d : MReg)
  /-- `shlri Rm,imm6,Rd` (44 R534). -/
  | mShlri (m : MReg) (imm : BitVec 6) (d : MReg)
  /-- `shlri.l Rm,imm6,Rd` (44 R535). -/
  | mShlriL (m : MReg) (imm : BitVec 6) (d : MReg)
  /-- `shari Rm,imm6,Rd` (44 R536). -/
  | mShari (m : MReg) (imm : BitVec 6) (d : MReg)
  /-- `shari.l Rm,imm6,Rd` (44 R537). -/
  | mShariL (m : MReg) (imm : BitVec 6) (d : MReg)
  /-- `movi imm16,Rd` (44 R538). -/
  | mMovi (imm : BitVec 16) (d : MReg)
  /-- `shori imm16,Rd` (44 R539). -/
  | mShori (imm : BitVec 16) (d : MReg)
  -- spec 45_media_packed.md
  /-- `madd.w Rm,Rn,Rd` (45 R565). -/
  | mMaddW (m n d : MReg)
  /-- `madd.l Rm,Rn,Rd` (45 R566). -/
  | mMaddL (m n d : MReg)
  /-- `madds.ub Rm,Rn,Rd` (45 R567). -/
  | mMaddsUb (m n d : MReg)
  /-- `madds.w Rm,Rn,Rd` (45 R568). -/
  | mMaddsW (m n d : MReg)
  /-- `madds.l Rm,Rn,Rd` (45 R569). -/
  | mMaddsL (m n d : MReg)
  /-- `msub.w Rm,Rn,Rd` (45 R570). -/
  | mMsubW (m n d : MReg)
  /-- `msub.l Rm,Rn,Rd` (45 R571). -/
  | mMsubL (m n d : MReg)
  /-- `msubs.ub Rm,Rn,Rd` (45 R572). -/
  | mMsubsUb (m n d : MReg)
  /-- `msubs.w Rm,Rn,Rd` (45 R573). -/
  | mMsubsW (m n d : MReg)
  /-- `msubs.l Rm,Rn,Rd` (45 R574). -/
  | mMsubsL (m n d : MReg)
  /-- `mabs.w Rm,Rd` (45 R575). -/
  | mMabsW (m d : MReg)
  /-- `mabs.l Rm,Rd` (45 R576). -/
  | mMabsL (m d : MReg)
  /-- `mcmpeq.b Rm,Rn,Rd` (45 R577). -/
  | mMcmpeqB (m n d : MReg)
  /-- `mcmpeq.w Rm,Rn,Rd` (45 R578). -/
  | mMcmpeqW (m n d : MReg)
  /-- `mcmpeq.l Rm,Rn,Rd` (45 R579). -/
  | mMcmpeqL (m n d : MReg)
  /-- `mcmpgt.ub Rm,Rn,Rd` (45 R580). -/
  | mMcmpgtUb (m n d : MReg)
  /-- `mcmpgt.w Rm,Rn,Rd` (45 R581). -/
  | mMcmpgtW (m n d : MReg)
  /-- `mcmpgt.l Rm,Rn,Rd` (45 R582). -/
  | mMcmpgtL (m n d : MReg)
  /-- `mcmv Rm,Rn,Rd` (45 R583). -/
  | mMcmv (m n d : MReg)
  /-- `mcnvs.lw Rm,Rn,Rd` (45 R584). -/
  | mMcnvsLw (m n d : MReg)
  /-- `mcnvs.wb Rm,Rn,Rd` (45 R585). -/
  | mMcnvsWb (m n d : MReg)
  /-- `mcnvs.wub Rm,Rn,Rd` (45 R586). -/
  | mMcnvsWub (m n d : MReg)
  /-- `mextr1 Rm,Rn,Rd` (45 R587). -/
  | mMextr1 (m n d : MReg)
  /-- `mextr2 Rm,Rn,Rd` (45 R588). -/
  | mMextr2 (m n d : MReg)
  /-- `mextr3 Rm,Rn,Rd` (45 R589). -/
  | mMextr3 (m n d : MReg)
  /-- `mextr4 Rm,Rn,Rd` (45 R590). -/
  | mMextr4 (m n d : MReg)
  /-- `mextr5 Rm,Rn,Rd` (45 R591). -/
  | mMextr5 (m n d : MReg)
  /-- `mextr6 Rm,Rn,Rd` (45 R592). -/
  | mMextr6 (m n d : MReg)
  /-- `mextr7 Rm,Rn,Rd` (45 R593). -/
  | mMextr7 (m n d : MReg)
  /-- `mmacfx.wl Rm,Rn,Rd` (45 R594). -/
  | mMmacfxWl (m n d : MReg)
  /-- `mmacnfx.wl Rm,Rn,Rd` (45 R595). -/
  | mMmacnfxWl (m n d : MReg)
  /-- `mmul.w Rm,Rn,Rd` (45 R596). -/
  | mMmulW (m n d : MReg)
  /-- `mmul.l Rm,Rn,Rd` (45 R597). -/
  | mMmulL (m n d : MReg)
  /-- `mmulfx.w Rm,Rn,Rd` (45 R598). -/
  | mMmulfxW (m n d : MReg)
  /-- `mmulfx.l Rm,Rn,Rd` (45 R599). -/
  | mMmulfxL (m n d : MReg)
  /-- `mmulfxrp.w Rm,Rn,Rd` (45 R600). -/
  | mMmulfxrpW (m n d : MReg)
  /-- `mmulhi.wl Rm,Rn,Rd` (45 R601). -/
  | mMmulhiWl (m n d : MReg)
  /-- `mmullo.wl Rm,Rn,Rd` (45 R602). -/
  | mMmulloWl (m n d : MReg)
  /-- `mmulsum.wq Rm,Rn,Rd` (45 R603). -/
  | mMmulsumWq (m n d : MReg)
  /-- `mperm.w Rm,Rn,Rd` (45 R604). -/
  | mMpermW (m n d : MReg)
  /-- `msad.ubq Rm,Rn,Rd` (45 R605). -/
  | mMsadUbq (m n d : MReg)
  /-- `mshalds.w Rm,Rn,Rd` (45 R606). -/
  | mMshaldsW (m n d : MReg)
  /-- `mshalds.l Rm,Rn,Rd` (45 R607). -/
  | mMshaldsL (m n d : MReg)
  /-- `mshard.w Rm,Rn,Rd` (45 R608). -/
  | mMshardW (m n d : MReg)
  /-- `mshard.l Rm,Rn,Rd` (45 R609). -/
  | mMshardL (m n d : MReg)
  /-- `mshards.q Rm,Rn,Rd` (45 R610). -/
  | mMshardsQ (m n d : MReg)
  /-- `mshlld.w Rm,Rn,Rd` (45 R611). -/
  | mMshlldW (m n d : MReg)
  /-- `mshlld.l Rm,Rn,Rd` (45 R612). -/
  | mMshlldL (m n d : MReg)
  /-- `mshlrd.w Rm,Rn,Rd` (45 R613). -/
  | mMshlrdW (m n d : MReg)
  /-- `mshlrd.l Rm,Rn,Rd` (45 R614). -/
  | mMshlrdL (m n d : MReg)
  /-- `mshflo.b Rm,Rn,Rd` (45 R615). -/
  | mMshfloB (m n d : MReg)
  /-- `mshflo.w Rm,Rn,Rd` (45 R616). -/
  | mMshfloW (m n d : MReg)
  /-- `mshflo.l Rm,Rn,Rd` (45 R617). -/
  | mMshfloL (m n d : MReg)
  /-- `mshfhi.b Rm,Rn,Rd` (45 R618). -/
  | mMshfhiB (m n d : MReg)
  /-- `mshfhi.w Rm,Rn,Rd` (45 R619). -/
  | mMshfhiW (m n d : MReg)
  /-- `mshfhi.l Rm,Rn,Rd` (45 R620). -/
  | mMshfhiL (m n d : MReg)
  -- spec 46_media_mem.md
  /-- `ld.b Rm,disp10,Rd` (46 R635). -/
  | mLdB (m : MReg) (imm : BitVec 10) (d : MReg)
  /-- `ld.w Rm,disp10,Rd` (46 R636). -/
  | mLdW (m : MReg) (imm : BitVec 10) (d : MReg)
  /-- `ld.l Rm,disp10,Rd` (46 R637). -/
  | mLdL (m : MReg) (imm : BitVec 10) (d : MReg)
  /-- `ld.q Rm,disp10,Rd` (46 R638). -/
  | mLdQ (m : MReg) (imm : BitVec 10) (d : MReg)
  /-- `ld.ub Rm,disp10,Rd` (46 R639). -/
  | mLdUb (m : MReg) (imm : BitVec 10) (d : MReg)
  /-- `ld.uw Rm,disp10,Rd` (46 R640). -/
  | mLdUw (m : MReg) (imm : BitVec 10) (d : MReg)
  /-- `st.b Rm,disp10,Ry` (46 R641). -/
  | mStB (m : MReg) (imm : BitVec 10) (d : MReg)
  /-- `st.w Rm,disp10,Ry` (46 R642). -/
  | mStW (m : MReg) (imm : BitVec 10) (d : MReg)
  /-- `st.l Rm,disp10,Ry` (46 R643). -/
  | mStL (m : MReg) (imm : BitVec 10) (d : MReg)
  /-- `st.q Rm,disp10,Ry` (46 R644). -/
  | mStQ (m : MReg) (imm : BitVec 10) (d : MReg)
  /-- `ldx.b Rm,Rn,Rd` (46 R645). -/
  | mLdxB (m n d : MReg)
  /-- `ldx.w Rm,Rn,Rd` (46 R646). -/
  | mLdxW (m n d : MReg)
  /-- `ldx.l Rm,Rn,Rd` (46 R647). -/
  | mLdxL (m n d : MReg)
  /-- `ldx.q Rm,Rn,Rd` (46 R648). -/
  | mLdxQ (m n d : MReg)
  /-- `ldx.ub Rm,Rn,Rd` (46 R649). -/
  | mLdxUb (m n d : MReg)
  /-- `ldx.uw Rm,Rn,Rd` (46 R650). -/
  | mLdxUw (m n d : MReg)
  /-- `stx.b Rm,Rn,Ry` (46 R651). -/
  | mStxB (m n d : MReg)
  /-- `stx.w Rm,Rn,Ry` (46 R652). -/
  | mStxW (m n d : MReg)
  /-- `stx.l Rm,Rn,Ry` (46 R653). -/
  | mStxL (m n d : MReg)
  /-- `stx.q Rm,Rn,Ry` (46 R654). -/
  | mStxQ (m n d : MReg)
  /-- `ldlo.l Rm,disp6,Rd` (46 R655). -/
  | mLdloL (m : MReg) (imm : BitVec 6) (d : MReg)
  /-- `ldlo.q Rm,disp6,Rd` (46 R656). -/
  | mLdloQ (m : MReg) (imm : BitVec 6) (d : MReg)
  /-- `ldhi.l Rm,disp6,Rd` (46 R657). -/
  | mLdhiL (m : MReg) (imm : BitVec 6) (d : MReg)
  /-- `ldhi.q Rm,disp6,Rd` (46 R658). -/
  | mLdhiQ (m : MReg) (imm : BitVec 6) (d : MReg)
  /-- `stlo.l Rm,disp6,Ry` (46 R659). -/
  | mStloL (m : MReg) (imm : BitVec 6) (d : MReg)
  /-- `stlo.q Rm,disp6,Ry` (46 R660). -/
  | mStloQ (m : MReg) (imm : BitVec 6) (d : MReg)
  /-- `sthi.l Rm,disp6,Ry` (46 R661). -/
  | mSthiL (m : MReg) (imm : BitVec 6) (d : MReg)
  /-- `sthi.q Rm,disp6,Ry` (46 R662). -/
  | mSthiQ (m : MReg) (imm : BitVec 6) (d : MReg)
  /-- `swap.q Rm,Rn,Rd` (46 R663). -/
  | mSwapQ (m n d : MReg)
  /-- `prefi Rm,disp6x32` (46 R664). -/
  | mPrefi (m : MReg) (imm : BitVec 6)
  /-- `alloco Rm,disp6x32` (46 R665). -/
  | mAlloco (m : MReg) (imm : BitVec 6)
  /-- `icbi Rm,disp6x32` (46 R666). -/
  | mIcbi (m : MReg) (imm : BitVec 6)
  /-- `ocbp Rm,disp6x32` (46 R667). -/
  | mOcbp (m : MReg) (imm : BitVec 6)
  /-- `ocbi Rm,disp6x32` (46 R668). -/
  | mOcbi (m : MReg) (imm : BitVec 6)
  /-- `ocbwb Rm,disp6x32` (46 R669). -/
  | mOcbwb (m : MReg) (imm : BitVec 6)
  /-- `getcfg Rm,disp6,Rd` (46 R670). -/
  | mGetcfg (m : MReg) (imm : BitVec 6) (d : MReg)
  /-- `putcfg Rm,disp6,Ry` (46 R671). -/
  | mPutcfg (m : MReg) (imm : BitVec 6) (d : MReg)
  -- spec 47_media_branch_system.md
  /-- `pta label,TRa` (47 R683). -/
  | mPta (imm : BitVec 16) (l : BitVec 1) (a : TReg)
  /-- `ptb label,TRa` (47 R684). -/
  | mPtb (imm : BitVec 16) (l : BitVec 1) (a : TReg)
  /-- `ptabs Rn,TRa` (47 R685). -/
  | mPtabs (n : MReg) (l : BitVec 1) (a : TReg)
  /-- `ptrel Rn,TRa` (47 R686). -/
  | mPtrel (n : MReg) (l : BitVec 1) (a : TReg)
  /-- `gettr TRb,Rd` (47 R687). -/
  | mGettr (b : TReg) (d : MReg)
  /-- `blink TRb,Rd` (47 R688). -/
  | mBlink (b : TReg) (d : MReg)
  /-- `beq Rm,Rn,TRa` (47 R689). -/
  | mBeq (m n : MReg) (l : BitVec 1) (a : TReg)
  /-- `bge Rm,Rn,TRa` (47 R690). -/
  | mBge (m n : MReg) (l : BitVec 1) (a : TReg)
  /-- `bne Rm,Rn,TRa` (47 R691). -/
  | mBne (m n : MReg) (l : BitVec 1) (a : TReg)
  /-- `bgt Rm,Rn,TRa` (47 R692). -/
  | mBgt (m n : MReg) (l : BitVec 1) (a : TReg)
  /-- `bgeu Rm,Rn,TRa` (47 R693). -/
  | mBgeu (m n : MReg) (l : BitVec 1) (a : TReg)
  /-- `bgtu Rm,Rn,TRa` (47 R694). -/
  | mBgtu (m n : MReg) (l : BitVec 1) (a : TReg)
  /-- `beqi Rm,imm6,TRa` (47 R695). -/
  | mBeqi (m : MReg) (imm : BitVec 6) (l : BitVec 1) (a : TReg)
  /-- `bnei Rm,imm6,TRa` (47 R696). -/
  | mBnei (m : MReg) (imm : BitVec 6) (l : BitVec 1) (a : TReg)
  /-- `getcon CRk,Rd` (47 R697). -/
  | mGetcon (m d : MReg)
  /-- `putcon Rm,CRj` (47 R698). -/
  | mPutcon (m d : MReg)
  /-- `trapa Rm` (47 R699). -/
  | mTrapa (m : MReg)
  /-- `brk` (47 R700). -/
  | mBrk
  /-- `rte` (47 R701). -/
  | mRte
  /-- `sleep` (47 R702). -/
  | mSleep
  /-- `synci` (47 R703). -/
  | mSynci
  /-- `synco` (47 R704). -/
  | mSynco
  /-- `nop` (47 R705). -/
  | mNop
  -- spec 48_fpu.md
  /-- `fabs.s FRgh,FRf` (48 R755). -/
  | mFabsS (m n d : MReg)
  /-- `fabs.d DRgh,DRf` (48 R756). -/
  | mFabsD (m n d : MReg)
  /-- `fneg.s FRgh,FRf` (48 R757). -/
  | mFnegS (m n d : MReg)
  /-- `fneg.d DRgh,DRf` (48 R758). -/
  | mFnegD (m n d : MReg)
  /-- `fadd.s FRg,FRh,FRf` (48 R759). -/
  | mFaddS (m n d : MReg)
  /-- `fadd.d DRg,DRh,DRf` (48 R760). -/
  | mFaddD (m n d : MReg)
  /-- `fsub.s FRg,FRh,FRf` (48 R761). -/
  | mFsubS (m n d : MReg)
  /-- `fsub.d DRg,DRh,DRf` (48 R762). -/
  | mFsubD (m n d : MReg)
  /-- `fdiv.s FRg,FRh,FRf` (48 R763). -/
  | mFdivS (m n d : MReg)
  /-- `fdiv.d DRg,DRh,DRf` (48 R764). -/
  | mFdivD (m n d : MReg)
  /-- `fmul.s FRg,FRh,FRf` (48 R765). -/
  | mFmulS (m n d : MReg)
  /-- `fmul.d DRg,DRh,DRf` (48 R766). -/
  | mFmulD (m n d : MReg)
  /-- `fmac.s FRg,FRh,FRf` (48 R767). -/
  | mFmacS (m n d : MReg)
  /-- `fsqrt.s FRgh,FRf` (48 R768). -/
  | mFsqrtS (m n d : MReg)
  /-- `fsqrt.d DRgh,DRf` (48 R769). -/
  | mFsqrtD (m n d : MReg)
  /-- `fcmpeq.s FRg,FRh,Rd` (48 R770). -/
  | mFcmpeqS (m n d : MReg)
  /-- `fcmpeq.d DRg,DRh,Rd` (48 R771). -/
  | mFcmpeqD (m n d : MReg)
  /-- `fcmpun.s FRg,FRh,Rd` (48 R772). -/
  | mFcmpunS (m n d : MReg)
  /-- `fcmpun.d DRg,DRh,Rd` (48 R773). -/
  | mFcmpunD (m n d : MReg)
  /-- `fcmpgt.s FRg,FRh,Rd` (48 R774). -/
  | mFcmpgtS (m n d : MReg)
  /-- `fcmpgt.d DRg,DRh,Rd` (48 R775). -/
  | mFcmpgtD (m n d : MReg)
  /-- `fcmpge.s FRg,FRh,Rd` (48 R776). -/
  | mFcmpgeS (m n d : MReg)
  /-- `fcmpge.d DRg,DRh,Rd` (48 R777). -/
  | mFcmpgeD (m n d : MReg)
  /-- `fmov.s FRgh,FRf` (48 R778). -/
  | mFmovS (m n d : MReg)
  /-- `fmov.d DRgh,DRf` (48 R779). -/
  | mFmovD (m n d : MReg)
  /-- `fcnv.sd FRgh,DRf` (48 R780). -/
  | mFcnvSd (m n d : MReg)
  /-- `fcnv.ds DRgh,FRf` (48 R781). -/
  | mFcnvDs (m n d : MReg)
  /-- `ftrc.sl FRgh,FRf` (48 R782). -/
  | mFtrcSl (m n d : MReg)
  /-- `ftrc.dq DRgh,DRf` (48 R783). -/
  | mFtrcDq (m n d : MReg)
  /-- `ftrc.sq FRgh,DRf` (48 R784). -/
  | mFtrcSq (m n d : MReg)
  /-- `ftrc.dl DRgh,FRf` (48 R785). -/
  | mFtrcDl (m n d : MReg)
  /-- `float.ls FRgh,FRf` (48 R786). -/
  | mFloatLs (m n d : MReg)
  /-- `float.qd DRgh,DRf` (48 R787). -/
  | mFloatQd (m n d : MReg)
  /-- `float.ld FRgh,DRf` (48 R788). -/
  | mFloatLd (m n d : MReg)
  /-- `float.qs DRgh,FRf` (48 R789). -/
  | mFloatQs (m n d : MReg)
  /-- `fmov.sl FRgh,Rd` (48 R790). -/
  | mFmovSl (m n d : MReg)
  /-- `fmov.dq DRgh,Rd` (48 R791). -/
  | mFmovDq (m n d : MReg)
  /-- `fmov.ls Rm,FRf` (48 R792). -/
  | mFmovLs (m d : MReg)
  /-- `fmov.qd Rm,DRf` (48 R793). -/
  | mFmovQd (m d : MReg)
  /-- `fgetscr FRf` (48 R794). -/
  | mFgetscr (d : MReg)
  /-- `fputscr FRgh` (48 R795). -/
  | mFputscr (m n : MReg)
  /-- `fipr.s FVg,FVh,FRf` (48 R796). -/
  | mFiprS (m n d : MReg)
  /-- `ftrv.s MTRXg,FVh,FVf` (48 R797). -/
  | mFtrvS (m n d : MReg)
  /-- `fld.s Rm,disp10x4,FRf` (48 R798). -/
  | mFldS (m : MReg) (imm : BitVec 10) (d : MReg)
  /-- `fld.p Rm,disp10x8,FPf` (48 R799). -/
  | mFldP (m : MReg) (imm : BitVec 10) (d : MReg)
  /-- `fld.d Rm,disp10x8,DRf` (48 R800). -/
  | mFldD (m : MReg) (imm : BitVec 10) (d : MReg)
  /-- `fst.s Rm,disp10x4,FRy` (48 R801). -/
  | mFstS (m : MReg) (imm : BitVec 10) (d : MReg)
  /-- `fst.p Rm,disp10x8,FPy` (48 R802). -/
  | mFstP (m : MReg) (imm : BitVec 10) (d : MReg)
  /-- `fst.d Rm,disp10x8,DRy` (48 R803). -/
  | mFstD (m : MReg) (imm : BitVec 10) (d : MReg)
  /-- `fldx.s Rm,Rn,FRf` (48 R804). -/
  | mFldxS (m n d : MReg)
  /-- `fldx.d Rm,Rn,DRf` (48 R805). -/
  | mFldxD (m n d : MReg)
  /-- `fldx.p Rm,Rn,FPf` (48 R806). -/
  | mFldxP (m n d : MReg)
  /-- `fstx.s Rm,Rn,FRy` (48 R807). -/
  | mFstxS (m n d : MReg)
  /-- `fstx.d Rm,Rn,DRy` (48 R808). -/
  | mFstxD (m n d : MReg)
  /-- `fstx.p Rm,Rn,FPy` (48 R809). -/
  | mFstxP (m n d : MReg)
  deriving DecidableEq, Repr

end Sys2Proof
end

