-- ==== Sys2Proof/Machine/Operands.lean ====
section
/-! DEFINITION. Operand forms: immediates and displacements after extension and scaling (spec 30 R116, R119), effective
addresses of both encodings (20 R82, 41 R300 to R304), the compact FP views (10 R50, R52) and the misaligned pair
accesses of the media encoding (46 R655 to R662). -/

namespace Sys2Proof.Machine

/-! ### Immediates and displacements -/

/-- A field sign-extended to 32 bits and scaled by a power of two: `sext_k(f) × 2^sh` (30 R116). -/
def sx32 {k : Nat} (v : BitVec k) (sh : Nat) : Word := v.signExtend 32 <<< sh

/-- A field zero-extended to 32 bits and scaled: `zext_k(f) × 2^sh` (30 R116). -/
def zx32 {k : Nat} (v : BitVec k) (sh : Nat) : Word := v.setWidth 32 <<< sh

/-- A field sign-extended to 64 bits and scaled: `sext_k(f) × 2^sh` (30 R119). -/
def sx64 {k : Nat} (v : BitVec k) (sh : Nat) : Quad := v.signExtend 64 <<< sh

/-- A field zero-extended to 64 bits (30 R119). -/
def zx64 {k : Nat} (v : BitVec k) : Quad := v.setWidth 64

/-! ### Compact effective addresses: computed in 32 bits, sign-extended (20 R82, 41 R300) -/

/-- `@Rm`. -/
def State.eaReg (s : State) (m : CReg) : Quad := sext64 (s.r m)

/-- `@-Rn`: the register less the size. -/
def State.eaDec (s : State) (n : CReg) (size : Word) : Quad := sext64 (s.r n - size)

/-- `@(R0,Rm)`. -/
def State.eaIdx (s : State) (m : CReg) : Quad := sext64 (s.r m + s.r 0)

/-- `@(disp,Rm)` with the displacement already scaled. -/
def State.eaDisp (s : State) (m : CReg) (disp : Word) : Quad := sext64 (s.r m + disp)

/-- `@(disp,GBR)` with the displacement already scaled. -/
def State.eaGbr (s : State) (disp : Word) : Quad := sext64 (s.getGbr + disp)

/-- `@(R0,GBR)`. -/
def State.eaGbrIdx (s : State) : Quad := sext64 (s.getGbr + s.r 0)

/-- The compact long PC base: `(PC and 0xFFFFFFFC) + 4` in 32 bits (41 R303). -/
def State.pcLong (s : State) : Word := (low32 s.pc &&& 0xFFFFFFFC#32) + 4

/-- `mov.w @(disp,PC)`: `PC + 4 + disp` in 32 bits, sign-extended (41 R303). -/
def State.eaPcWord (s : State) (disp : Word) : Quad := sext64 (low32 s.pc + 4 + disp)

/-- `mov.l @(disp,PC)`: the long base plus the displacement, sign-extended (41 R303). -/
def State.eaPcLong (s : State) (disp : Word) : Quad := sext64 (s.pcLong + disp)

/-! ### Compact branch targets (42 R370) -/

/-- `t8(d)` and `t12(d)`: `PC + 4` plus the scaled displacement, in 32 bits, sign-extended. -/
def State.branchRel {k : Nat} (s : State) (disp : BitVec k) : Quad := sext64 (low32 s.pc + 4 + sx32 disp 1)

/-- `trel(v)`: `PC + 4 + v` in 32 bits, sign-extended. -/
def State.branchReg (s : State) (v : Word) : Quad := sext64 (low32 s.pc + 4 + v)

/-- The return address of a call: `PC[31:0] + 4`, after the slot (42 R381). -/
def State.returnAddr (s : State) : Word := low32 s.pc + 4

/-! ### Compact floating-point views (10 R50, R52) -/

/-- The physical number of `FRn` in the current bank. -/
def State.bank (s : State) (n : CReg) : MReg := 0#1 ++ BitVec.ofBool s.fpFR ++ n

/-- The physical number of `XFn` in the other bank. -/
def State.otherBank (s : State) (n : CReg) : MReg := 0#1 ++ BitVec.ofBool (!s.fpFR) ++ n

/-- Reading `FRn`. -/
def State.cf (s : State) (n : CReg) : Word := s.f (s.bank n)

/-- Writing `FRn`. -/
def State.setCf (s : State) (n : CReg) (v : Word) : State := s.setF (s.bank n) v

/-- Reading `DRn`, n even. -/
def State.cd (s : State) (n : CReg) : Quad := s.d (s.bank n)

/-- Writing `DRn`, n even. -/
def State.setCd (s : State) (n : CReg) (v : Quad) : State := s.setD (s.bank n) v

/-- The first physical register of the 64-bit FMOV view: `DRn` for an even field, `XD(n-1)` for an odd one. -/
def State.fmovBase (s : State) (n : CReg) : MReg :=
  if n.getLsbD 0 then s.otherBank (n - 1) else s.bank n

/-- The four elements of an FV view whose first physical register is `i`. -/
def State.fv (s : State) (i : MReg) : Vector Word 4 := #v[s.f i, s.f (i + 1), s.f (i + 2), s.f (i + 3)]

/-- The sixteen elements of a matrix view whose first physical register is `i`. -/
def State.mtrx (s : State) (i : MReg) : Vector Word 16 := Vector.ofFn fun k => s.f (i + BitVec.ofNat 6 k.val)

/-- Writing the four elements of an FV view. -/
def State.setFv (s : State) (i : MReg) (x : Nat → Word) : State :=
  (((s.setF i (x 0)).setF (i + 1) (x 1)).setF (i + 2) (x 2)).setF (i + 3) (x 3)

/-- The number of a DR named by a 3-bit field (30 R114). -/
def drField (n : BitVec 3) : CReg := n ++ 0#1

/-- The number of element `k` of an FV named by a 2-bit field (30 R114). -/
def fvField (n : BitVec 2) (k : BitVec 2) : CReg := n ++ k

/-! ### Field constraints and legality -/

/-- Go on only if a check of the instruction's own fields or mode holds (60 R854, fourth event). -/
def State.require (s : State) (ok : Bool) (k : Result) : Result := if ok then k else s.invalid

/-! ### Transfers of pairs (20 R87) -/

/-- A pair transfer that is not 8-byte aligned faults with its own address, under `MISALIGNED = fault`. -/
def State.pairAligned (s : State) (a : Quad) (k : Result) : Result :=
  match s.params.misaligned with
  | .fault => if a.toNat % 8 = 0 then k else s.memoryFault a
  | .split => k

/-- `LoadPair(a)` (43 R432): two 4-byte reads, high half at the lower address. -/
def State.loadPair (s : State) (a : Quad) (k : Quad → Result) : Result :=
  s.pairAligned a (s.checkRead a 4 (s.checkRead (a + 4) 4 (k (s.read32 a ++ s.read32 (a + 4)))))

/-- The memory after `StorePair(a, v)` (43 R432). -/
def State.writePair (s : State) (a : Quad) (v : Quad) : State :=
  (s.write32 a (high32 v)).write32 (a + 4) (low32 v)

/-- The checks of `StorePair(a, v)`: neither half is written if either faults (20 R89). -/
def State.checkPair (s : State) (a : Quad) (k : Result) : Result :=
  s.pairAligned a (s.checkWrite a 4 (s.checkWrite (a + 4) 4 k))

end Sys2Proof.Machine
end

