-- ==== Sys2Proof/Machine/CompactAlu.lean ====
section
/-! DEFINITION. The compact arithmetic, logic and shift instructions (spec 40). Each docstring names the rule. -/

namespace Sys2Proof.Machine

/-! ### Arithmetic -/

/-- 40 R205. -/
def execCAdd (m n : CReg) (s : State) : Result := s.putR n (s.r n + s.r m)

/-- 40 R206. -/
def execCAddImm (imm : BitVec 8) (n : CReg) (s : State) : Result := s.putR n (s.r n + sx32 imm 0)

/-- 40 R207. -/
def execCAddc (m n : CReg) (s : State) : Result :=
  s.putRT n (s.r n + s.r m + truth 32 s.flagT) (carry (s.r n) (s.r m) s.flagT)

/-- 40 R208. -/
def execCAddv (m n : CReg) (s : State) : Result :=
  s.putRT n (s.r n + s.r m) (ovAdd (s.r n) (s.r m) (s.r n + s.r m))

/-- 40 R209. -/
def execCCmpEqImm (imm : BitVec 8) (s : State) : Result := s.putT (s.r 0 == sx32 imm 0)

/-- 40 R210. -/
def execCCmpEq (m n : CReg) (s : State) : Result := s.putT (s.r n == s.r m)

/-- 40 R211. -/
def execCCmpHs (m n : CReg) (s : State) : Result := s.putT (BitVec.ule (s.r m) (s.r n))

/-- 40 R212. -/
def execCCmpGe (m n : CReg) (s : State) : Result := s.putT (BitVec.sle (s.r m) (s.r n))

/-- 40 R213. -/
def execCCmpHi (m n : CReg) (s : State) : Result := s.putT (BitVec.ult (s.r m) (s.r n))

/-- 40 R214. -/
def execCCmpGt (m n : CReg) (s : State) : Result := s.putT (BitVec.slt (s.r m) (s.r n))

/-- 40 R215. -/
def execCCmpPz (n : CReg) (s : State) : Result := s.putT (BitVec.sle 0 (s.r n))

/-- 40 R216. -/
def execCCmpPl (n : CReg) (s : State) : Result := s.putT (BitVec.slt 0 (s.r n))

/-- 40 R217. -/
def execCCmpStr (m n : CReg) (s : State) : Result := s.putT (anyByteEq (s.r n) (s.r m))

/-- 40 R218. -/
def execCDiv0s (m n : CReg) (s : State) : Result :=
  (((s.setQ (s.r n).msb).setM (s.r m).msb).setT ((s.r n).msb ^^ (s.r m).msb)).retire 2

/-- 40 R219. -/
def execCDiv0u (s : State) : Result := (((s.setQ false).setM false).setT false).retire 2

/-- 40 R220. -/
def execCDiv1 (m n : CReg) (s : State) : Result :=
  let sh := div1Shifted (s.r n) s.flagT
  let r := div1Result s.flagQ s.flagM sh (s.r m)
  let q := div1Q s.flagQ s.flagM (s.r n).msb (div1Carry s.flagQ s.flagM sh r)
  (((s.setR n r).setQ q).setT (q == s.flagM)).retire 2

/-- 40 R221. Division by 0 gives the free value `DIVU_ZERO` of the dividend. -/
def execCDivu (n : CReg) (s : State) : Result :=
  s.putR n (if s.r 0 = 0 then Config.divuZero (s.r n) else s.r n / s.r 0)

/-- 40 R222. -/
def execCDmulsL (m n : CReg) (s : State) : Result :=
  (s.setMac (BitVec.ofInt 64 ((s.r n).toInt * (s.r m).toInt))).retire 2

/-- 40 R223. -/
def execCDmuluL (m n : CReg) (s : State) : Result :=
  (s.setMac (BitVec.ofNat 64 ((s.r n).toNat * (s.r m).toNat))).retire 2

/-- 40 R224. -/
def execCDt (n : CReg) (s : State) : Result := s.putRT n (s.r n - 1) (s.r n - 1 == 0)

/-- 40 R225. -/
def execCExtsB (m n : CReg) (s : State) : Result := s.putR n (((s.r m).setWidth 8).signExtend 32)

/-- 40 R226. -/
def execCExtsW (m n : CReg) (s : State) : Result := s.putR n (((s.r m).setWidth 16).signExtend 32)

/-- 40 R227. -/
def execCExtuB (m n : CReg) (s : State) : Result := s.putR n (((s.r m).setWidth 8).setWidth 32)

/-- 40 R228. -/
def execCExtuW (m n : CReg) (s : State) : Result := s.putR n (((s.r m).setWidth 16).setWidth 32)

/-- The second address of mac.l and mac.w: with `m = n` it follows the first (40 R229, R230). -/
def macSecond (s : State) (m n : CReg) (size : Word) : Word := if m = n then s.r n + size else s.r m

/-- The register writes of mac.l and mac.w: `R[n]`, then `R[m]` (40 R229, R230). -/
def macAdvance (s : State) (m n : CReg) (size : Word) : State :=
  (s.setR n (s.r n + size)).setR m (macSecond s m n size + size)

/-- 40 R229. -/
def execCMacL (m n : CReg) (s : State) : Result :=
  s.load32 (sext64 (s.r n)) fun x =>
  s.load32 (sext64 (macSecond s m n 4)) fun y =>
  let acc := s.getMac.toInt + x.toInt * y.toInt
  let res := if s.flagS then (satS 48 acc).signExtend 64 else BitVec.ofInt 64 acc
  ((macAdvance s m n 4).setMac res).retire 2

/-- 40 R230. With S = 1 MACH is a free value, drawn anew. -/
def execCMacW (m n : CReg) (s : State) : Result :=
  s.load16 (sext64 (s.r n)) fun x =>
  s.load16 (sext64 (macSecond s m n 2)) fun y =>
  let p := x.toInt * y.toInt
  let s' := macAdvance s m n 2
  if s.flagS then
    State.retire { (s'.setMacl (satS 32 (s.getMacl.toInt + p))).setMach (Config.machSat s.draws) with
      draws := s.draws + 1 } 2
  else (s'.setMac (BitVec.ofInt 64 (s.getMac.toInt + p))).retire 2

/-- 40 R231. -/
def execCMulL (m n : CReg) (s : State) : Result := (s.setMacl (s.r n * s.r m)).retire 2

/-- 40 R232. -/
def execCMulr (n : CReg) (s : State) : Result := s.putR n (s.r 0 * s.r n)

/-- 40 R233. -/
def execCMulsW (m n : CReg) (s : State) : Result :=
  (s.setMacl (((s.r n).setWidth 16).signExtend 32 * ((s.r m).setWidth 16).signExtend 32)).retire 2

/-- 40 R234. -/
def execCMuluW (m n : CReg) (s : State) : Result :=
  (s.setMacl (((s.r n).setWidth 16).setWidth 32 * ((s.r m).setWidth 16).setWidth 32)).retire 2

/-- 40 R235. -/
def execCNeg (m n : CReg) (s : State) : Result := s.putR n (0 - s.r m)

/-- 40 R236. -/
def execCNegc (m n : CReg) (s : State) : Result :=
  s.putRT n (0 - s.r m - truth 32 s.flagT) (borrow 0 (s.r m) s.flagT)

/-- 40 R237. -/
def execCSub (m n : CReg) (s : State) : Result := s.putR n (s.r n - s.r m)

/-- 40 R238. -/
def execCSubc (m n : CReg) (s : State) : Result :=
  s.putRT n (s.r n - s.r m - truth 32 s.flagT) (borrow (s.r n) (s.r m) s.flagT)

/-- 40 R239. -/
def execCSubv (m n : CReg) (s : State) : Result :=
  s.putRT n (s.r n - s.r m) (ovSub (s.r n) (s.r m) (s.r n - s.r m))

/-! ### Logic -/

/-- 40 R240. -/
def execCAnd (m n : CReg) (s : State) : Result := s.putR n (s.r n &&& s.r m)

/-- 40 R241. -/
def execCAndImm (imm : BitVec 8) (s : State) : Result := s.putR 0 (s.r 0 &&& zx32 imm 0)

/-- 40 R242. -/
def execCAndB (imm : BitVec 8) (s : State) : Result := s.modify8 s.eaGbrIdx fun b => b &&& imm

/-- 40 R243. -/
def execCNot (m n : CReg) (s : State) : Result := s.putR n (~~~s.r m)

/-- 40 R244. -/
def execCOr (m n : CReg) (s : State) : Result := s.putR n (s.r n ||| s.r m)

/-- 40 R245. -/
def execCOrImm (imm : BitVec 8) (s : State) : Result := s.putR 0 (s.r 0 ||| zx32 imm 0)

/-- 40 R246. -/
def execCOrB (imm : BitVec 8) (s : State) : Result := s.modify8 s.eaGbrIdx fun b => b ||| imm

/-- 40 R247. -/
def execCTasB (n : CReg) (s : State) : Result :=
  s.load8 (s.eaReg n) fun b =>
  s.checkWrite (s.eaReg n) 1 (((s.setT (b == 0)).write8 (s.eaReg n) (b ||| 0x80)).retire 2)

/-- 40 R248. -/
def execCTst (m n : CReg) (s : State) : Result := s.putT (s.r n &&& s.r m == 0)

/-- 40 R249. -/
def execCTstImm (imm : BitVec 8) (s : State) : Result := s.putT (s.r 0 &&& zx32 imm 0 == 0)

/-- 40 R250. -/
def execCTstB (imm : BitVec 8) (s : State) : Result := s.load8 s.eaGbrIdx fun b => s.putT (b &&& imm == 0)

/-- 40 R251. -/
def execCXor (m n : CReg) (s : State) : Result := s.putR n (s.r n ^^^ s.r m)

/-- 40 R252. -/
def execCXorImm (imm : BitVec 8) (s : State) : Result := s.putR 0 (s.r 0 ^^^ zx32 imm 0)

/-- 40 R253. -/
def execCXorB (imm : BitVec 8) (s : State) : Result := s.modify8 s.eaGbrIdx fun b => b ^^^ imm

/-! ### Rotates and shifts -/

/-- 40 R254. -/
def execCRotl (n : CReg) (s : State) : Result :=
  s.putRT n ((s.r n <<< 1) ||| truth 32 (s.r n).msb) (s.r n).msb

/-- 40 R255. -/
def execCRotr (n : CReg) (s : State) : Result :=
  s.putRT n (BitVec.ofBool ((s.r n).getLsbD 0) ++ (s.r n).extractLsb' 1 31) ((s.r n).getLsbD 0)

/-- 40 R256. -/
def execCRotcl (n : CReg) (s : State) : Result :=
  s.putRT n ((s.r n <<< 1) ||| truth 32 s.flagT) (s.r n).msb

/-- 40 R257. -/
def execCRotcr (n : CReg) (s : State) : Result :=
  s.putRT n (BitVec.ofBool s.flagT ++ (s.r n).extractLsb' 1 31) ((s.r n).getLsbD 0)

/-- The dynamic shift count (40 R258): bits 4:0. -/
def shiftCount (v : Word) : Nat := (v.extractLsb' 0 5).toNat

/-- 40 R258. -/
def execCShad (m n : CReg) (s : State) : Result :=
  s.putR n
    (if (s.r m).msb = false then s.r n <<< shiftCount (s.r m)
    else if shiftCount (s.r m) = 0 then (if (s.r n).msb then 0xFFFFFFFF else 0)
    else (s.r n).sshiftRight (32 - shiftCount (s.r m)))

/-- 40 R259. -/
def execCShal (n : CReg) (s : State) : Result := s.putRT n (s.r n <<< 1) (s.r n).msb

/-- 40 R260. -/
def execCShar (n : CReg) (s : State) : Result := s.putRT n ((s.r n).sshiftRight 1) ((s.r n).getLsbD 0)

/-- 40 R261. -/
def execCShld (m n : CReg) (s : State) : Result :=
  s.putR n
    (if (s.r m).msb = false then s.r n <<< shiftCount (s.r m)
    else if shiftCount (s.r m) = 0 then 0
    else s.r n >>> (32 - shiftCount (s.r m)))

/-- 40 R262. -/
def execCShll (n : CReg) (s : State) : Result := s.putRT n (s.r n <<< 1) (s.r n).msb

/-- 40 R263. -/
def execCShll2 (n : CReg) (s : State) : Result := s.putR n (s.r n <<< 2)

/-- 40 R264. -/
def execCShll8 (n : CReg) (s : State) : Result := s.putR n (s.r n <<< 8)

/-- 40 R265. -/
def execCShll16 (n : CReg) (s : State) : Result := s.putR n (s.r n <<< 16)

/-- 40 R266. -/
def execCShlr (n : CReg) (s : State) : Result := s.putRT n (s.r n >>> 1) ((s.r n).getLsbD 0)

/-- 40 R267. -/
def execCShlr2 (n : CReg) (s : State) : Result := s.putR n (s.r n >>> 2)

/-- 40 R268. -/
def execCShlr8 (n : CReg) (s : State) : Result := s.putR n (s.r n >>> 8)

/-- 40 R269. -/
def execCShlr16 (n : CReg) (s : State) : Result := s.putR n (s.r n >>> 16)

end Sys2Proof.Machine
end

