-- ==== Sys2Proof/Machine/CompactData.lean ====
section
/-! DEFINITION. The compact data-transfer instructions (spec 41). Each docstring names the rule. -/

namespace Sys2Proof.Machine

/-! ### Register and immediate moves -/

/-- 41 R305. -/
def execCMov (m n : CReg) (s : State) : Result := s.putR n (s.r m)

/-- 41 R306. -/
def execCMovImm (imm : BitVec 8) (n : CReg) (s : State) : Result := s.putR n (sx32 imm 0)

/-- 41 R307. -/
def execCMovi20 (imm : BitVec 20) (n : CReg) (s : State) : Result := (s.setR n (sx32 imm 0)).retire 4

/-- 41 R308. -/
def execCMovi20s (imm : BitVec 20) (n : CReg) (s : State) : Result := (s.setR n (sx32 imm 8)).retire 4

/-- 41 R309. -/
def execCMova (disp : BitVec 8) (s : State) : Result := s.putR 0 (s.pcLong + zx32 disp 2)

/-- 41 R310. -/
def execCMovWLoadPc (disp : BitVec 8) (n : CReg) (s : State) : Result :=
  s.load16 (s.eaPcWord (zx32 disp 1)) fun v => s.putR n (v.signExtend 32)

/-- 41 R311. -/
def execCMovLLoadPc (disp : BitVec 8) (n : CReg) (s : State) : Result :=
  s.load32 (s.eaPcLong (zx32 disp 2)) fun v => s.putR n v

/-! ### Loads: bytes and words are sign-extended (41 R301) -/

/-- 41 R312. -/
def execCMovBLoad (m n : CReg) (s : State) : Result :=
  s.load8 (s.eaReg m) fun v => s.putR n (v.signExtend 32)

/-- 41 R313. -/
def execCMovWLoad (m n : CReg) (s : State) : Result :=
  s.load16 (s.eaReg m) fun v => s.putR n (v.signExtend 32)

/-- 41 R314. -/
def execCMovLLoad (m n : CReg) (s : State) : Result :=
  s.load32 (s.eaReg m) fun v => s.putR n v

/-- 41 R315. -/
def execCMovBLoadInc (m n : CReg) (s : State) : Result :=
  s.load8 (s.eaReg m) fun v => s.putInc m n 1 (v.signExtend 32)

/-- 41 R316. -/
def execCMovWLoadInc (m n : CReg) (s : State) : Result :=
  s.load16 (s.eaReg m) fun v => s.putInc m n 2 (v.signExtend 32)

/-- 41 R317. -/
def execCMovLLoadInc (m n : CReg) (s : State) : Result :=
  s.load32 (s.eaReg m) fun v => s.putInc m n 4 v

/-- 41 R318. -/
def execCMovBLoadIdx (m n : CReg) (s : State) : Result :=
  s.load8 (s.eaIdx m) fun v => s.putR n (v.signExtend 32)

/-- 41 R319. -/
def execCMovWLoadIdx (m n : CReg) (s : State) : Result :=
  s.load16 (s.eaIdx m) fun v => s.putR n (v.signExtend 32)

/-- 41 R320. -/
def execCMovLLoadIdx (m n : CReg) (s : State) : Result :=
  s.load32 (s.eaIdx m) fun v => s.putR n v

/-- 41 R321. -/
def execCMovBLoadDisp (m : CReg) (disp : BitVec 4) (s : State) : Result :=
  s.load8 (s.eaDisp m (zx32 disp 0)) fun v => s.putR 0 (v.signExtend 32)

/-- 41 R322. -/
def execCMovWLoadDisp (m : CReg) (disp : BitVec 4) (s : State) : Result :=
  s.load16 (s.eaDisp m (zx32 disp 1)) fun v => s.putR 0 (v.signExtend 32)

/-- 41 R323. -/
def execCMovLLoadDisp (m : CReg) (disp : BitVec 4) (n : CReg) (s : State) : Result :=
  s.load32 (s.eaDisp m (zx32 disp 2)) fun v => s.putR n v

/-- 41 R324. Refused when `d[11] = 1` (41 R304). -/
def execCMovLLoadDisp12 (m : CReg) (disp : BitVec 12) (n : CReg) (s : State) : Result :=
  if disp.msb then s.refuse .disp12
  else s.load32 (s.eaDisp m (zx32 disp 2)) fun v => (s.setR n v).retire 4

/-- 41 R325. -/
def execCMovBLoadGbr (disp : BitVec 8) (s : State) : Result :=
  s.load8 (s.eaGbr (zx32 disp 0)) fun v => s.putR 0 (v.signExtend 32)

/-- 41 R326. -/
def execCMovWLoadGbr (disp : BitVec 8) (s : State) : Result :=
  s.load16 (s.eaGbr (zx32 disp 1)) fun v => s.putR 0 (v.signExtend 32)

/-- 41 R327. -/
def execCMovLLoadGbr (disp : BitVec 8) (s : State) : Result :=
  s.load32 (s.eaGbr (zx32 disp 2)) fun v => s.putR 0 v

/-- The four one-byte reads of movua.l (41 R328, 20 R86). -/
def movuaAddrs (a : Quad) : List Quad := [a, a + 1, a + 2, a + 3]

/-- 41 R328. -/
def execCMovuaL (m : CReg) (s : State) : Result :=
  s.checkReads (movuaAddrs (s.eaReg m)) (s.putR 0 (s.read32 (s.eaReg m)))

/-- 41 R329. -/
def execCMovuaLInc (m : CReg) (s : State) : Result :=
  s.checkReads (movuaAddrs (s.eaReg m)) (s.putInc m 0 4 (s.read32 (s.eaReg m)))

/-! ### Stores -/

/-- 41 R330. -/
def execCMovBStore (m n : CReg) (s : State) : Result :=
  s.store8 (s.eaReg n) ((s.r m).setWidth 8)

/-- 41 R331. -/
def execCMovWStore (m n : CReg) (s : State) : Result :=
  s.store16 (s.eaReg n) ((s.r m).setWidth 16)

/-- 41 R332. -/
def execCMovLStore (m n : CReg) (s : State) : Result :=
  s.store32 (s.eaReg n) (s.r m)

/-- 41 R333. -/
def execCMovBStoreDec (m n : CReg) (s : State) : Result :=
  s.checkWrite (s.eaDec n 1) 1
    (((s.write8 (s.eaDec n 1) ((s.r m).setWidth 8)).setR n (s.r n - 1)).retire 2)

/-- 41 R334. -/
def execCMovWStoreDec (m n : CReg) (s : State) : Result :=
  s.checkWrite (s.eaDec n 2) 2
    (((s.write16 (s.eaDec n 2) ((s.r m).setWidth 16)).setR n (s.r n - 2)).retire 2)

/-- 41 R335. -/
def execCMovLStoreDec (m n : CReg) (s : State) : Result :=
  s.checkWrite (s.eaDec n 4) 4
    (((s.write32 (s.eaDec n 4) (s.r m)).setR n (s.r n - 4)).retire 2)

/-- 41 R336. -/
def execCMovBStoreIdx (m n : CReg) (s : State) : Result :=
  s.store8 (s.eaIdx n) ((s.r m).setWidth 8)

/-- 41 R337. -/
def execCMovWStoreIdx (m n : CReg) (s : State) : Result :=
  s.store16 (s.eaIdx n) ((s.r m).setWidth 16)

/-- 41 R338. -/
def execCMovLStoreIdx (m n : CReg) (s : State) : Result :=
  s.store32 (s.eaIdx n) (s.r m)

/-- 41 R339. -/
def execCMovBStoreDisp (disp : BitVec 4) (n : CReg) (s : State) : Result :=
  s.store8 (s.eaDisp n (zx32 disp 0)) ((s.r 0).setWidth 8)

/-- 41 R340. -/
def execCMovWStoreDisp (disp : BitVec 4) (n : CReg) (s : State) : Result :=
  s.store16 (s.eaDisp n (zx32 disp 1)) ((s.r 0).setWidth 16)

/-- 41 R341. -/
def execCMovLStoreDisp (m : CReg) (disp : BitVec 4) (n : CReg) (s : State) : Result :=
  s.store32 (s.eaDisp n (zx32 disp 2)) (s.r m)

/-- 41 R342. Refused when `d[11] = 1` (41 R304). -/
def execCMovLStoreDisp12 (m : CReg) (disp : BitVec 12) (n : CReg) (s : State) : Result :=
  if disp.msb then s.refuse .disp12
  else s.checkWrite (s.eaDisp n (zx32 disp 2)) 4 ((s.write32 (s.eaDisp n (zx32 disp 2)) (s.r m)).retire 4)

/-- 41 R343. -/
def execCMovBStoreGbr (disp : BitVec 8) (s : State) : Result :=
  s.store8 (s.eaGbr (zx32 disp 0)) ((s.r 0).setWidth 8)

/-- 41 R344. -/
def execCMovWStoreGbr (disp : BitVec 8) (s : State) : Result :=
  s.store16 (s.eaGbr (zx32 disp 1)) ((s.r 0).setWidth 16)

/-- 41 R345. -/
def execCMovLStoreGbr (disp : BitVec 8) (s : State) : Result :=
  s.store32 (s.eaGbr (zx32 disp 2)) (s.r 0)

/-! ### Cache-line, exclusive and register-shuffle instructions -/

/-- 41 R346: only the store is modelled, the engine has no cache (20 R96). -/
def execCMovcaL (n : CReg) (s : State) : Result := s.store32 (s.eaReg n) (s.r 0)

/-- 41 R347: refused, or nothing but the next PC under `MOVCO_MODE = placeholder`. -/
def execCMovcoL (_n : CReg) (s : State) : Result :=
  match s.params.movco with
  | .refuse => s.refuse .movco
  | .placeholder => s.retire 2

/-- 41 R348: refused, or nothing but the next PC under `MOVCO_MODE = placeholder`. -/
def execCMovliL (_m : CReg) (s : State) : Result :=
  match s.params.movco with
  | .refuse => s.refuse .movli
  | .placeholder => s.retire 2

/-- 41 R349. -/
def execCMovt (n : CReg) (s : State) : Result := s.putR n (truth 32 s.flagT)

/-- 41 R350. -/
def execCSwapB (m n : CReg) (s : State) : Result :=
  s.putR n ((s.r m).extractLsb' 16 16 ++ (s.r m).extractLsb' 0 8 ++ (s.r m).extractLsb' 8 8)

/-- 41 R351. -/
def execCSwapW (m n : CReg) (s : State) : Result :=
  s.putR n ((s.r m).extractLsb' 0 16 ++ (s.r m).extractLsb' 16 16)

/-- 41 R352. -/
def execCXtrct (m n : CReg) (s : State) : Result :=
  s.putR n ((s.r m).extractLsb' 0 16 ++ (s.r n).extractLsb' 16 16)

end Sys2Proof.Machine
end

