-- ==== Sys2Proof/Machine/Float.lean ====
section
/-! DEFINITION. The floating-point helper library (spec 48 R730 to R747): pure functions from bit patterns to bit patterns
or truth values. Operands are unpacked to exact values, computed exactly in integers, and rounded once to nearest even. -/

namespace Sys2Proof.Machine

/-! ### Formats and exact values -/

/-- A binary interchange format: the widths of its exponent and fraction fields (00 R17). -/
structure FFormat where
  exp : Nat
  frac : Nat
  deriving DecidableEq, Repr

/-- IEEE-754 binary32. -/
def binary32 : FFormat := ⟨8, 23⟩

/-- IEEE-754 binary64. -/
def binary64 : FFormat := ⟨11, 52⟩

/-- An exact value: a NaN, a signed infinity, or `± m × 2^e`, with a signed zero for `m = 0`. -/
inductive FVal where
  | nan
  | inf (neg : Bool)
  | fin (neg : Bool) (m : Nat) (e : Int)
  deriving DecidableEq, Repr

/-- The exponent of the last place of the subnormals and of the smallest normals. -/
def FFormat.eMin (f : FFormat) : Int := 2 - 2 ^ (f.exp - 1) - f.frac

/-- The exact value of a pattern, given as a number; subnormals keep their value (48 R733). -/
def unpack (f : FFormat) (x : Nat) : FVal :=
  let neg := x / 2 ^ (f.exp + f.frac) % 2 == 1
  let e := x / 2 ^ f.frac % 2 ^ f.exp
  let m := x % 2 ^ f.frac
  if e = 2 ^ f.exp - 1 then (if m = 0 then .inf neg else .nan)
  else if e = 0 then .fin neg m f.eMin
  else .fin neg (2 ^ f.frac + m) (f.eMin + (e - 1 : Nat))

/-- `m / 2^k` rounded to nearest, ties to even (48 R731). -/
def roundShift (m k : Nat) : Nat :=
  let q := m / 2 ^ k
  let r := m % 2 ^ k
  if 2 * r > 2 ^ k || (2 * r = 2 ^ k && q % 2 = 1) then q + 1 else q

/-- `m × 2^e`, or `m / 2^(-e)` rounded: `m` scaled to the exponent `e` below it. -/
def scaleTo (m : Nat) (e : Int) : Nat :=
  if 0 ≤ e then m * 2 ^ e.toNat else roundShift m (-e).toNat

/-- The pattern, without its sign, of `m × 2^e` rounded once to nearest even, with gradual underflow and with overflow to
infinity (48 R731, R733, R734). -/
def roundMag (f : FFormat) (m : Nat) (e : Int) : Nat :=
  if m = 0 then 0
  else
    let q := max (e + m.log2 - f.frac) f.eMin
    min ((q - f.eMin).toNat * 2 ^ f.frac + scaleTo m (e - q)) ((2 ^ f.exp - 1) * 2 ^ f.frac)

/-- The pattern of a value that is not a NaN. -/
def packNum (f : FFormat) : FVal → Nat
  | .nan => 0
  | .inf neg => neg.toNat * 2 ^ (f.exp + f.frac) + (2 ^ f.exp - 1) * 2 ^ f.frac
  | .fin neg m e => neg.toNat * 2 ^ (f.exp + f.frac) + roundMag f m e

/-- `FP_NAN.s` (48 R732): a NaN pattern, whichever it is. -/
def fpNan32 : Word :=
  BitVec.ofBool Config.nanSign32 ++ 0xFF#8 ++ (if Config.nanFraction32 = 0 then 1 else Config.nanFraction32)

/-- `FP_NAN.d` (48 R732): a NaN pattern, whichever it is. -/
def fpNan64 : Quad :=
  BitVec.ofBool Config.nanSign64 ++ 0x7FF#11 ++ (if Config.nanFraction64 = 0 then 1 else Config.nanFraction64)

/-- The value of a binary32 pattern, `f32(x)` (00 R17). -/
def f32 (x : Word) : FVal := unpack binary32 x.toNat

/-- The value of a binary64 pattern, `f64(x)` (00 R17). -/
def f64 (x : Quad) : FVal := unpack binary64 x.toNat

/-- `bits32(v)`: the rounded pattern, and `FP_NAN.s` for a NaN (48 R731, R732). -/
def bits32 : FVal → Word
  | .nan => fpNan32
  | v => BitVec.ofNat 32 (packNum binary32 v)

/-- `bits64(v)`: the rounded pattern, and `FP_NAN.d` for a NaN (48 R731, R732). -/
def bits64 : FVal → Quad
  | .nan => fpNan64
  | v => BitVec.ofNat 64 (packNum binary64 v)

/-! ### Exact operations -/

/-- The numerator of a finite value over the exponent `e0`, which is not above its own. -/
def signedAt (neg : Bool) (m : Nat) (e e0 : Int) : Int :=
  let k : Int := m * 2 ^ (e - e0).toNat
  if neg then -k else k

/-- The sum (48 R735): `inf + (-inf)` is a NaN; an exact zero is +0 unless both operands are negative zeros. -/
def FVal.add : FVal → FVal → FVal
  | .nan, _ => .nan
  | _, .nan => .nan
  | .inf a, .inf b => if a = b then .inf a else .nan
  | .inf a, .fin _ _ _ => .inf a
  | .fin _ _ _, .inf b => .inf b
  | .fin n1 m1 e1, .fin n2 m2 e2 =>
    let e := min e1 e2
    let k := signedAt n1 m1 e1 e + signedAt n2 m2 e2 e
    .fin (if k = 0 then n1 && n2 else decide (k < 0)) k.natAbs e

/-- The product (48 R743). -/
def FVal.mul : FVal → FVal → FVal
  | .nan, _ => .nan
  | _, .nan => .nan
  | .inf a, .inf b => .inf (a ^^ b)
  | .inf a, .fin b m _ => if m = 0 then .nan else .inf (a ^^ b)
  | .fin a m _, .inf b => if m = 0 then .nan else .inf (a ^^ b)
  | .fin a m1 e1, .fin b m2 e2 => .fin (a ^^ b) (m1 * m2) (e1 + e2)

/-- The quotient (48 R744), cut at `2 × frac + 6` further places with a last bit that says whether anything was cut:
enough for one rounding to `f` to be exact. -/
def FVal.div (f : FFormat) : FVal → FVal → FVal
  | .nan, _ => .nan
  | _, .nan => .nan
  | .inf _, .inf _ => .nan
  | .inf a, .fin b _ _ => .inf (a ^^ b)
  | .fin a _ _, .inf b => .fin (a ^^ b) 0 0
  | .fin a m1 e1, .fin b m2 e2 =>
    if m2 = 0 then (if m1 = 0 then .nan else .inf (a ^^ b))
    else
      let k := 2 * f.frac + 6
      let n := m1 * 2 ^ k
      .fin (a ^^ b) (2 * (n / m2) + (if n % m2 = 0 then 0 else 1)) (e1 - e2 - k - 1)

/-- The integer square root, found bit by bit from bit `k - 1` down. -/
def isqrtFrom (n : Nat) : Nat → Nat → Nat
  | 0, r => r
  | k + 1, r => isqrtFrom n k (if (r + 2 ^ k) * (r + 2 ^ k) ≤ n then r + 2 ^ k else r)

/-- The square root (48 R745), cut with a last bit that says whether anything was cut. -/
def FVal.sqrt (f : FFormat) : FVal → FVal
  | .nan => .nan
  | .inf neg => if neg then .nan else .inf false
  | .fin neg m e =>
    if m = 0 then .fin neg 0 e
    else if neg then .nan
    else
      let k := 2 * (f.frac + 4) + (e % 2).toNat
      let n := m * 2 ^ k
      let r := isqrtFrom n (2 * f.frac + 8) 0
      .fin false (2 * r + (if r * r = n then 0 else 1)) ((e - k) / 2 - 1)

/-- Numerical order of two values that are not NaNs: whether `a < b`. -/
def FVal.lt : FVal → FVal → Bool
  | .nan, _ => false
  | _, .nan => false
  | .inf a, .inf b => a && !b
  | .inf a, .fin _ _ _ => a
  | .fin _ _ _, .inf b => !b
  | .fin n1 m1 e1, .fin n2 m2 e2 =>
    let e := min e1 e2
    decide (signedAt n1 m1 e1 e < signedAt n2 m2 e2 e)

/-- Whether a value is a NaN. -/
def FVal.isNan : FVal → Bool
  | .nan => true
  | _ => false

/-- Numerical equality: false on a NaN, and +0 equals −0 (48 R738). -/
def FVal.eq (a b : FVal) : Bool := !a.isNan && !b.isNan && !a.lt b && !b.lt a

/-- The value of an integer; zero is +0 (48 R746). -/
def ofInteger (i : Int) : FVal := .fin (decide (i < 0)) i.natAbs 0

/-- Truncation toward zero of a finite value; none for a NaN and an infinity (48 R740). -/
def FVal.trunc : FVal → Option Int
  | .nan => none
  | .inf _ => none
  | .fin neg m e =>
    let t : Int := if 0 ≤ e then m * 2 ^ e.toNat else m / 2 ^ (-e).toNat
    some (if neg then -t else t)

/-! ### The helpers of 48 R730 -/

/-- 48 R735. -/
def fAdd32 (a b : Word) : Word := bits32 ((f32 a).add (f32 b))

/-- 48 R735. -/
def fAdd64 (a b : Quad) : Quad := bits64 ((f64 a).add (f64 b))

/-- 48 R739. -/
def fNeg32 (x : Word) : Word := x ^^^ 0x80000000#32

/-- 48 R739. -/
def fNeg64 (x : Quad) : Quad := x ^^^ 0x8000000000000000#64

/-- 48 R739. -/
def fAbs32 (x : Word) : Word := x &&& 0x7FFFFFFF#32

/-- 48 R739. -/
def fAbs64 (x : Quad) : Quad := x &&& 0x7FFFFFFFFFFFFFFF#64

/-- 48 R736: the sum with the negated operand; a NaN gives `FP_NAN` through R735. -/
def fSub32 (a b : Word) : Word := fAdd32 a (fNeg32 b)

/-- 48 R736. -/
def fSub64 (a b : Quad) : Quad := fAdd64 a (fNeg64 b)

/-- 48 R743. -/
def fMul32 (a b : Word) : Word := bits32 ((f32 a).mul (f32 b))

/-- 48 R743. -/
def fMul64 (a b : Quad) : Quad := bits64 ((f64 a).mul (f64 b))

/-- 48 R744. -/
def fDiv32 (a b : Word) : Word := bits32 ((f32 a).div binary32 (f32 b))

/-- 48 R744. -/
def fDiv64 (a b : Quad) : Quad := bits64 ((f64 a).div binary64 (f64 b))

/-- 48 R745. -/
def fSqrt32 (a : Word) : Word := bits32 ((f32 a).sqrt binary32)

/-- 48 R745. -/
def fSqrt64 (a : Quad) : Quad := bits64 ((f64 a).sqrt binary64)

/-- 48 R737: one rounding. -/
def fMulAdd32 (a b c : Word) : Word := bits32 (((f32 a).mul (f32 b)).add (f32 c))

/-- 48 R738. -/
def fCmpEq32 (a b : Word) : Bool := (f32 a).eq (f32 b)

/-- 48 R738. -/
def fCmpEq64 (a b : Quad) : Bool := (f64 a).eq (f64 b)

/-- 48 R738: `a > b`. -/
def fCmpGt32 (a b : Word) : Bool := (f32 b).lt (f32 a)

/-- 48 R738: `a > b`. -/
def fCmpGt64 (a b : Quad) : Bool := (f64 b).lt (f64 a)

/-- 48 R738: `a ≥ b`. -/
def fCmpGe32 (a b : Word) : Bool := fCmpGt32 a b || fCmpEq32 a b

/-- 48 R738: `a ≥ b`. -/
def fCmpGe64 (a b : Quad) : Bool := fCmpGt64 a b || fCmpEq64 a b

/-- 48 R738: unordered. -/
def fCmpUn32 (a b : Word) : Bool := (f32 a).isNan || (f32 b).isNan

/-- 48 R738: unordered. -/
def fCmpUn64 (a b : Quad) : Bool := (f64 a).isNan || (f64 b).isNan

/-- The integer of `w` bits that a value truncates to; `FP_CVT_INVALID` where there is none in range (48 R740). -/
def truncTo (w : Nat) (v : FVal) (invalid : BitVec w) : BitVec w :=
  match v.trunc with
  | none => invalid
  | some t => if -(2 ^ (w - 1)) ≤ t ∧ t ≤ 2 ^ (w - 1) - 1 then BitVec.ofInt w t else invalid

/-- 48 R740. -/
def fCvtF32toI32 (x : Word) : Word := truncTo 32 (f32 x) (Config.fpCvtInvalid 32 32 x)

/-- 48 R740. -/
def fCvtF64toI32 (x : Quad) : Word := truncTo 32 (f64 x) (Config.fpCvtInvalid 32 64 x)

/-- 48 R740. -/
def fCvtF32toI64 (x : Word) : Quad := truncTo 64 (f32 x) (Config.fpCvtInvalid 64 32 x)

/-- 48 R740. -/
def fCvtF64toI64 (x : Quad) : Quad := truncTo 64 (f64 x) (Config.fpCvtInvalid 64 64 x)

/-- 48 R746. -/
def fCvtI32toF32 (i : Word) : Word := bits32 (ofInteger i.toInt)

/-- 48 R746. -/
def fCvtI32toF64 (i : Word) : Quad := bits64 (ofInteger i.toInt)

/-- 48 R746. -/
def fCvtI64toF32 (i : Quad) : Word := bits32 (ofInteger i.toInt)

/-- 48 R746. -/
def fCvtI64toF64 (i : Quad) : Quad := bits64 (ofInteger i.toInt)

/-- 48 R747. -/
def fCvtF32toF64 (x : Word) : Quad := bits64 (f32 x)

/-- 48 R747. -/
def fCvtF64toF32 (x : Quad) : Word := bits32 (f64 x)

/-! ### Dot product and matrix transform (48 R741, R742) -/

/-- Whether a value is exactly representable in binary32. -/
def FVal.isSingle (v : FVal) : Bool :=
  match v with
  | .nan => false
  | v => (f32 (bits32 v)).eq v

/-- What the constraints of 48 R741 fix of the dot product of two 4-tuples: a NaN for a NaN input, for an `inf × 0`
product and for a sum of opposite infinities (R732); the exact value when every product and every partial sum of the
reference order is representable; otherwise the open value `free`. -/
def dotFixed (v w : Vector Word 4) (free : Word) : Word :=
  let p0 := (f32 v[0]).mul (f32 w[0])
  let p1 := (f32 v[1]).mul (f32 w[1])
  let p2 := (f32 v[2]).mul (f32 w[2])
  let p3 := (f32 v[3]).mul (f32 w[3])
  let s1 := p0.add p1
  let s2 := s1.add p2
  let s3 := s2.add p3
  if s3.isNan then fpNan32
  else if p0.isSingle && p1.isSingle && p2.isSingle && p3.isSingle && s1.isSingle && s2.isSingle && s3.isSingle then
    bits32 s3
  else free

/-- `FDot4(v, w)` (48 R741). -/
def fDot4 (v w : Vector Word 4) : Word := dotFixed v w (Config.fpDot4 v w)

/-- Row `i` of a column-major matrix: `M[i][j]` is element `i + 4j` (10 R47, R50). -/
def mtrxRow (m : Vector Word 16) (i : Nat) : Vector Word 4 :=
  #v[m.getD i 0, m.getD (i + 4) 0, m.getD (i + 8) 0, m.getD (i + 12) 0]

/-- Element `i` of `FMtrx(M, v)` (48 R742). -/
def fMtrx (m : Vector Word 16) (v : Vector Word 4) (i : Nat) : Word :=
  dotFixed (mtrxRow m i) v (Config.fpMtrx m v i)

end Sys2Proof.Machine
end

