-- ==== Sys2Proof/Machine/CompactFpu.lean ====
section
/-! DEFINITION. The compact floating-point instructions (spec 43). Each docstring names the rule. `s.fpPR` selects double
precision (10 R53); an opcode that is illegal under it reports InvalidInstruction (43 R431). -/

namespace Sys2Proof.Machine

/-- A one-operand float operation on `FRn` or `DRn` (43 R435). -/
def fpUnary (s : State) (n : CReg) (op32 : Word → Word) (op64 : Quad → Quad) : Result :=
  if s.fpPR then s.require (evenC n) ((s.setCd n (op64 (s.cd n))).retire 2)
  else (s.setCf n (op32 (s.cf n))).retire 2

/-- A two-operand float operation `FRn <- op(FRn, FRm)`, or the same on DR (43 R437). -/
def fpBinary (s : State) (m n : CReg) (op32 : Word → Word → Word) (op64 : Quad → Quad → Quad) : Result :=
  if s.fpPR then s.require (evenC n && evenC m) ((s.setCd n (op64 (s.cd n) (s.cd m))).retire 2)
  else (s.setCf n (op32 (s.cf n) (s.cf m))).retire 2

/-- A float comparison into T (43 R442). -/
def fpCompare (s : State) (m n : CReg) (op32 : Word → Word → Bool) (op64 : Quad → Quad → Bool) : Result :=
  if s.fpPR then s.require (evenC n && evenC m) (s.putT (op64 (s.cd n) (s.cd m)))
  else s.putT (op32 (s.cf n) (s.cf m))

/-! ### Arithmetic -/

/-- 43 R435. -/
def execCFabs (n : CReg) (s : State) : Result := fpUnary s n fAbs32 fAbs64

/-- 43 R436. -/
def execCFneg (n : CReg) (s : State) : Result := fpUnary s n fNeg32 fNeg64

/-- 43 R437. -/
def execCFadd (m n : CReg) (s : State) : Result := fpBinary s m n fAdd32 fAdd64

/-- 43 R438. -/
def execCFsub (m n : CReg) (s : State) : Result := fpBinary s m n fSub32 fSub64

/-- 43 R439. -/
def execCFmul (m n : CReg) (s : State) : Result := fpBinary s m n fMul32 fMul64

/-- 43 R440. -/
def execCFdiv (m n : CReg) (s : State) : Result := fpBinary s m n fDiv32 fDiv64

/-- 43 R441. -/
def execCFsqrt (n : CReg) (s : State) : Result := fpUnary s n fSqrt32 fSqrt64

/-- 43 R442. -/
def execCFcmpEq (m n : CReg) (s : State) : Result := fpCompare s m n fCmpEq32 fCmpEq64

/-- 43 R443. -/
def execCFcmpGt (m n : CReg) (s : State) : Result := fpCompare s m n fCmpGt32 fCmpGt64

/-- 43 R444. -/
def execCFmac (m n : CReg) (s : State) : Result :=
  s.require (!s.fpPR) ((s.setCf n (fMulAdd32 (s.cf 0) (s.cf m) (s.cf n))).retire 2)

/-! ### Constants, FPUL transfers and conversions -/

/-- 43 R445. -/
def execCFldi0 (n : CReg) (s : State) : Result := s.require (!s.fpPR) ((s.setCf n 0).retire 2)

/-- 43 R446. -/
def execCFldi1 (n : CReg) (s : State) : Result := s.require (!s.fpPR) ((s.setCf n 0x3F800000).retire 2)

/-- 43 R447. -/
def execCFlds (m : CReg) (s : State) : Result := (s.setFpul (s.cf m)).retire 2

/-- 43 R448. -/
def execCFsts (n : CReg) (s : State) : Result := (s.setCf n s.getFpul).retire 2

/-- 43 R449. -/
def execCFloat (n : CReg) (s : State) : Result :=
  if s.fpPR then s.require (evenC n) ((s.setCd n (fCvtI32toF64 s.getFpul)).retire 2)
  else (s.setCf n (fCvtI32toF32 s.getFpul)).retire 2

/-- 43 R450. -/
def execCFtrc (m : CReg) (s : State) : Result :=
  if s.fpPR then s.require (evenC m) ((s.setFpul (fCvtF64toI32 (s.cd m))).retire 2)
  else (s.setFpul (fCvtF32toI32 (s.cf m))).retire 2

/-- 43 R451. -/
def execCFcnvsd (n : BitVec 3) (s : State) : Result :=
  s.require s.fpPR ((s.setCd (drField n) (fCvtF32toF64 s.getFpul)).retire 2)

/-- 43 R452. -/
def execCFcnvds (m : BitVec 3) (s : State) : Result :=
  s.require s.fpPR ((s.setFpul (fCvtF64toF32 (s.cd (drField m)))).retire 2)

/-! ### Vector operations -/

/-- 43 R453: only the last element of FVn is written. -/
def execCFipr (m n : BitVec 2) (s : State) : Result :=
  s.require (!s.fpPR)
    ((s.setCf (fvField n 3) (fDot4 (s.fv (s.bank (fvField m 0))) (s.fv (s.bank (fvField n 0))))).retire 2)

/-- 43 R454: XMTRX is the other bank. -/
def execCFtrv (n : BitVec 2) (s : State) : Result :=
  let i := s.bank (fvField n 0)
  s.require (!s.fpPR) ((s.setFv i (fMtrx (s.mtrx (s.otherBank 0)) (s.fv i))).retire 2)

/-! ### Mode switches -/

/-- 43 R455: toggles FPSCR.FR. -/
def execCFrchg (s : State) : Result :=
  s.require (!s.fpPR) (State.retire { s with fpscr := s.fpscr ^^^ 0x00200000#32 } 2)

/-- 43 R456: toggles FPSCR.SZ. -/
def execCFschg (s : State) : Result :=
  s.require (!s.fpPR) (State.retire { s with fpscr := s.fpscr ^^^ 0x00100000#32 } 2)

/-! ### Register moves and memory transfers: bit copies (48 R748) -/

/-- 43 R457. -/
def execCFmov (m n : CReg) (s : State) : Result :=
  if s.fpSZ then (s.setD (s.fmovBase n) (s.d (s.fmovBase m))).retire 2
  else (s.setCf n (s.cf m)).retire 2

/-- A load of the FMOV view of field `n`, followed by `f` on the state (43 R458). -/
def fmovLoadAt (s : State) (a : Quad) (n : CReg) (f : State → State) : Result :=
  if s.fpSZ then s.loadPair a fun v => (f (s.setD (s.fmovBase n) v)).retire 2
  else s.load32 a fun v => (f (s.setCf n v)).retire 2

/-- A store of the FMOV view of field `m`, followed by `f` on the state (43 R462). -/
def fmovStoreAt (s : State) (a : Quad) (m : CReg) (f : State → State) : Result :=
  if s.fpSZ then s.checkPair a ((f (s.writePair a (s.d (s.fmovBase m)))).retire 2)
  else s.checkWrite a 4 ((f (s.write32 a (s.cf m))).retire 2)

/-- The transfer size of fmov in bytes (43 R459, R463). -/
def fmovSize (s : State) : Word := if s.fpSZ then 8 else 4

/-- 43 R458. -/
def execCFmovLoad (m n : CReg) (s : State) : Result := fmovLoadAt s (s.eaReg m) n id

/-- 43 R459. -/
def execCFmovLoadInc (m n : CReg) (s : State) : Result :=
  fmovLoadAt s (s.eaReg m) n fun t => t.setR m (s.r m + fmovSize s)

/-- 43 R460. -/
def execCFmovLoadIdx (m n : CReg) (s : State) : Result := fmovLoadAt s (s.eaIdx m) n id

/-- 43 R461. Refused when `d[11] = 1` (41 R304). -/
def execCFmovLoadDisp12 (m : CReg) (disp : BitVec 12) (n : BitVec 3) (s : State) : Result :=
  if disp.msb then s.refuse .disp12
  else s.loadPair (s.eaDisp m (zx32 disp 3)) fun v => (s.setCd (drField n) v).retire 4

/-- 43 R462. -/
def execCFmovStore (m n : CReg) (s : State) : Result := fmovStoreAt s (s.eaReg n) m id

/-- 43 R463. -/
def execCFmovStoreDec (m n : CReg) (s : State) : Result :=
  fmovStoreAt s (s.eaDec n (fmovSize s)) m fun t => t.setR n (s.r n - fmovSize s)

/-- 43 R464. -/
def execCFmovStoreIdx (m n : CReg) (s : State) : Result := fmovStoreAt s (s.eaIdx n) m id

/-- 43 R465. Refused when `d[11] = 1` (41 R304). -/
def execCFmovStoreDisp12 (m : BitVec 3) (disp : BitVec 12) (n : CReg) (s : State) : Result :=
  if disp.msb then s.refuse .disp12
  else
    s.checkPair (s.eaDisp n (zx32 disp 3)) ((s.writePair (s.eaDisp n (zx32 disp 3)) (s.cd (drField m))).retire 4)

/-! ### FPSCR and FPUL transfers -/

/-- 43 R466. -/
def execCLdsFpscr (m : CReg) (s : State) : Result := (s.setFpscr (s.r m)).retire 2

/-- 43 R467. -/
def execCLdsFpul (m : CReg) (s : State) : Result := (s.setFpul (s.r m)).retire 2

/-- 43 R468. -/
def execCLdsLFpscr (m : CReg) (s : State) : Result := s.popWith m State.setFpscr

/-- 43 R469. -/
def execCLdsLFpul (m : CReg) (s : State) : Result := s.popWith m State.setFpul

/-- 43 R470. -/
def execCStsFpscr (n : CReg) (s : State) : Result := s.putR n s.fpscr

/-- 43 R471. -/
def execCStsFpul (n : CReg) (s : State) : Result := s.putR n s.getFpul

/-- 43 R472. -/
def execCStsLFpscr (n : CReg) (s : State) : Result := s.push n s.fpscr

/-- 43 R473. -/
def execCStsLFpul (n : CReg) (s : State) : Result := s.push n s.getFpul

end Sys2Proof.Machine
end

