-- ==== Sys2Proof/Machine/CompactSystem.lean ====
section
/-! DEFINITION. The compact branches, system-register transfers, traps and cache hints (spec 42). Each docstring names
the rule. -/

namespace Sys2Proof.Machine

/-! ### Branches -/

/-- 42 R375. -/
def execCBf (disp : BitVec 8) (s : State) : Result :=
  if s.flagT then s.retire 2 else (s.setPC (s.branchRel disp)).complete

/-- 42 R376: not taken, the next instruction is still a slot, and control goes on at `PC + 4` (42 R371). -/
def execCBfS (disp : BitVec 8) (s : State) : Result :=
  s.delayedBranch (if s.flagT then s.pc + 4 else s.branchRel disp) false

/-- 42 R377. -/
def execCBt (disp : BitVec 8) (s : State) : Result :=
  if s.flagT then (s.setPC (s.branchRel disp)).complete else s.retire 2

/-- 42 R378: not taken, the next instruction is still a slot, and control goes on at `PC + 4` (42 R371). -/
def execCBtS (disp : BitVec 8) (s : State) : Result :=
  s.delayedBranch (if s.flagT then s.branchRel disp else s.pc + 4) false

/-- 42 R379. -/
def execCBra (disp : BitVec 12) (s : State) : Result := s.delayedBranch (s.branchRel disp) false

/-- 42 R380. -/
def execCBraf (m : CReg) (s : State) : Result := s.delayedBranch (s.branchReg (s.r m)) true

/-- 42 R381. -/
def execCBsr (disp : BitVec 12) (s : State) : Result :=
  (s.setPr s.returnAddr).delayedBranch (s.branchRel disp) false

/-- 42 R382. -/
def execCBsrf (m : CReg) (s : State) : Result :=
  (s.setPr s.returnAddr).delayedBranch (s.branchReg (s.r m)) true

/-- 42 R383. -/
def execCJmp (m : CReg) (s : State) : Result := s.delayedBranch (sext64 (s.r m)) true

/-- 42 R384. -/
def execCJsr (m : CReg) (s : State) : Result := (s.setPr s.returnAddr).delayedBranch (sext64 (s.r m)) true

/-- 42 R385. -/
def execCRts (s : State) : Result := s.delayedBranch (sext64 s.getPr) true

/-! ### Flag and accumulator control -/

/-- 42 R386. -/
def execCClrmac (s : State) : Result := (s.setMac 0).retire 2

/-- 42 R387. -/
def execCClrs (s : State) : Result := (s.setS false).retire 2

/-- 42 R388. -/
def execCClrt (s : State) : Result := s.putT false

/-- 42 R389. -/
def execCSets (s : State) : Result := (s.setS true).retire 2

/-- 42 R390. -/
def execCSett (s : State) : Result := s.putT true

/-- 42 R391. -/
def execCNop (s : State) : Result := s.retire 2

/-! ### Control and system register transfers -/

/-- 42 R392: all 32 bits of SR. -/
def execCLdcSr (m : CReg) (s : State) : Result := State.retire { s with sr := s.r m } 2

/-- 42 R393. -/
def execCLdcGbr (m : CReg) (s : State) : Result := (s.setGbr (s.r m)).retire 2

/-- 42 R394. -/
def execCLdcVbr (m : CReg) (s : State) : Result := (s.setVbr (s.r m)).retire 2

/-- 42 R395. -/
def execCLdcLGbr (m : CReg) (s : State) : Result := s.popWith m State.setGbr

/-- 42 R396. -/
def execCLdcLVbr (m : CReg) (s : State) : Result := s.popWith m State.setVbr

/-- 42 R397. -/
def execCLdsMach (m : CReg) (s : State) : Result := (s.setMach (s.r m)).retire 2

/-- 42 R398. -/
def execCLdsMacl (m : CReg) (s : State) : Result := (s.setMacl (s.r m)).retire 2

/-- 42 R399. -/
def execCLdsPr (m : CReg) (s : State) : Result := (s.setPr (s.r m)).retire 2

/-- 42 R400. -/
def execCLdsLMach (m : CReg) (s : State) : Result := s.popWith m State.setMach

/-- 42 R401. -/
def execCLdsLMacl (m : CReg) (s : State) : Result := s.popWith m State.setMacl

/-- 42 R402. -/
def execCLdsLPr (m : CReg) (s : State) : Result := s.popWith m State.setPr

/-- 42 R403. -/
def execCStcGbr (n : CReg) (s : State) : Result := s.putR n s.getGbr

/-- 42 R404. -/
def execCStcVbr (n : CReg) (s : State) : Result := s.putR n s.vbr

/-- 42 R405. -/
def execCStcLGbr (n : CReg) (s : State) : Result := s.push n s.getGbr

/-- 42 R406. -/
def execCStcLVbr (n : CReg) (s : State) : Result := s.push n s.vbr

/-- 42 R407. -/
def execCStsMach (n : CReg) (s : State) : Result := s.putR n s.getMach

/-- 42 R408. -/
def execCStsMacl (n : CReg) (s : State) : Result := s.putR n s.getMacl

/-- 42 R409. -/
def execCStsPr (n : CReg) (s : State) : Result := s.putR n s.getPr

/-- 42 R410. -/
def execCStsLMach (n : CReg) (s : State) : Result := s.push n s.getMach

/-- 42 R411. -/
def execCStsLMacl (n : CReg) (s : State) : Result := s.push n s.getMacl

/-- 42 R412. -/
def execCStsLPr (n : CReg) (s : State) : Result := s.push n s.getPr

/-! ### Traps -/

/-- 42 R413. -/
def execCTrapa (imm : BitVec 8) (s : State) : Result := s.trap (.trapa (zx64 imm)) 2

/-- 42 R414. -/
def execCBrk (s : State) : Result := s.trap .brk 2

/-! ### Cache hints: no access, no effect but the next PC (20 R96) -/

/-- 42 R415. -/
def execCPref (_n : CReg) (s : State) : Result := s.retire 2

/-- 42 R416. -/
def execCOcbi (_n : CReg) (s : State) : Result := s.retire 2

/-- 42 R417. -/
def execCOcbp (_n : CReg) (s : State) : Result := s.retire 2

/-- 42 R418. -/
def execCOcbwb (_n : CReg) (s : State) : Result := s.retire 2

end Sys2Proof.Machine
end

