-- ==== Sys2Proof/Machine/MediaAlu.lean ====
section
/-! DEFINITION. The media integer instructions (spec 44). Each docstring names the rule. -/

namespace Sys2Proof.Machine

/-- The low 32 bits of a register operand of a `.l` form (44 R501). -/
def State.gl (s : State) (i : MReg) : Word := low32 (s.g i)

/-- A 64-bit shift count: bits 5:0 (44 R501). -/
def count6 (v : Quad) : Nat := (v.extractLsb' 0 6).toNat

/-- A 32-bit shift count: bits 4:0 (44 R501). -/
def count5 (v : Quad) : Nat := (v.extractLsb' 0 5).toNat

/-- A 32-bit shift count from an immediate: bits 4:0 (44 R533). -/
def immCount5 (v : BitVec 6) : Nat := (v.extractLsb' 0 5).toNat

/-- The number of redundant sign bits below bit `k`, counted from bit `k - 1` down (44 R522). -/
def signRun (v : Quad) : Nat → Nat
  | 0 => 0
  | k + 1 => if v.getLsbD k = v.msb then signRun v k + 1 else 0

/-! ### Add and subtract -/

/-- 44 R503. -/
def execMAdd (m n d : MReg) (s : State) : Result := s.putG d (s.g m + s.g n)

/-- 44 R504. -/
def execMAddL (m n d : MReg) (s : State) : Result := s.putG d (sext64 (s.gl m + s.gl n))

/-- 44 R505. -/
def execMAddi (m : MReg) (imm : BitVec 10) (d : MReg) (s : State) : Result := s.putG d (s.g m + sx64 imm 0)

/-- 44 R506. -/
def execMAddiL (m : MReg) (imm : BitVec 10) (d : MReg) (s : State) : Result := s.putG d (sext64 (s.gl m + sx32 imm 0))

/-- 44 R507. -/
def execMAddzL (m n d : MReg) (s : State) : Result := s.putG d (zext64 (s.gl m + s.gl n))

/-- 44 R508. -/
def execMSub (m n d : MReg) (s : State) : Result := s.putG d (s.g m - s.g n)

/-- 44 R509. -/
def execMSubL (m n d : MReg) (s : State) : Result := s.putG d (sext64 (s.gl m - s.gl n))

/-! ### Logic -/

/-- 44 R510. -/
def execMAnd (m n d : MReg) (s : State) : Result := s.putG d (s.g m &&& s.g n)

/-- 44 R511. -/
def execMAndc (m n d : MReg) (s : State) : Result := s.putG d (s.g m &&& ~~~s.g n)

/-- 44 R512. -/
def execMAndi (m : MReg) (imm : BitVec 10) (d : MReg) (s : State) : Result := s.putG d (s.g m &&& sx64 imm 0)

/-- 44 R513. -/
def execMOr (m n d : MReg) (s : State) : Result := s.putG d (s.g m ||| s.g n)

/-- 44 R514. -/
def execMOri (m : MReg) (imm : BitVec 10) (d : MReg) (s : State) : Result := s.putG d (s.g m ||| sx64 imm 0)

/-- 44 R515. -/
def execMXor (m n d : MReg) (s : State) : Result := s.putG d (s.g m ^^^ s.g n)

/-- 44 R516. -/
def execMXori (m : MReg) (imm : BitVec 6) (d : MReg) (s : State) : Result := s.putG d (s.g m ^^^ sx64 imm 0)

/-! ### Compare and conditional move -/

/-- 44 R517. -/
def execMCmpeq (m n d : MReg) (s : State) : Result := s.putG d (truth 64 (s.g m == s.g n))

/-- 44 R518. -/
def execMCmpgt (m n d : MReg) (s : State) : Result := s.putG d (truth 64 (BitVec.slt (s.g n) (s.g m)))

/-- 44 R519. -/
def execMCmpgtu (m n d : MReg) (s : State) : Result := s.putG d (truth 64 (BitVec.ult (s.g n) (s.g m)))

/-- 44 R520. -/
def execMCmveq (m n d : MReg) (s : State) : Result := if s.g m = 0 then s.putG d (s.g n) else s.retire 4

/-- 44 R521. -/
def execMCmvne (m n d : MReg) (s : State) : Result := if s.g m = 0 then s.retire 4 else s.putG d (s.g n)

/-! ### Bit counting, byte reversal and multiply -/

/-- 44 R522. -/
def execMNsb (m d : MReg) (s : State) : Result := s.putG d (BitVec.ofNat 64 (signRun (s.g m) 63))

/-- 44 R523. -/
def execMByterev (m d : MReg) (s : State) : Result := s.putG d (packB fun j => byteAt (s.g m) (7 - j))

/-- 44 R524. -/
def execMMuluL (m n d : MReg) (s : State) : Result := s.putG d (zext64 (s.gl m) * zext64 (s.gl n))

/-- 44 R525. -/
def execMMulsL (m n d : MReg) (s : State) : Result := s.putG d (BitVec.ofInt 64 ((s.gl m).toInt * (s.gl n).toInt))

/-! ### Shifts -/

/-- 44 R526. -/
def execMShlld (m n d : MReg) (s : State) : Result := s.putG d (s.g m <<< count6 (s.g n))

/-- 44 R527. -/
def execMShlldL (m n d : MReg) (s : State) : Result := s.putG d (sext64 (s.gl m <<< count5 (s.g n)))

/-- 44 R528. -/
def execMShlrd (m n d : MReg) (s : State) : Result := s.putG d (s.g m >>> count6 (s.g n))

/-- 44 R529. -/
def execMShlrdL (m n d : MReg) (s : State) : Result := s.putG d (sext64 (s.gl m >>> count5 (s.g n)))

/-- 44 R530. -/
def execMShard (m n d : MReg) (s : State) : Result := s.putG d ((s.g m).sshiftRight (count6 (s.g n)))

/-- 44 R531. -/
def execMShardL (m n d : MReg) (s : State) : Result := s.putG d (sext64 ((s.gl m).sshiftRight (count5 (s.g n))))

/-- 44 R532. -/
def execMShlli (m : MReg) (imm : BitVec 6) (d : MReg) (s : State) : Result := s.putG d (s.g m <<< imm.toNat)

/-- 44 R533. -/
def execMShlliL (m : MReg) (imm : BitVec 6) (d : MReg) (s : State) : Result :=
  s.putG d (sext64 (s.gl m <<< immCount5 imm))

/-- 44 R534. -/
def execMShlri (m : MReg) (imm : BitVec 6) (d : MReg) (s : State) : Result := s.putG d (s.g m >>> imm.toNat)

/-- 44 R535. -/
def execMShlriL (m : MReg) (imm : BitVec 6) (d : MReg) (s : State) : Result :=
  s.putG d (sext64 (s.gl m >>> immCount5 imm))

/-- 44 R536. -/
def execMShari (m : MReg) (imm : BitVec 6) (d : MReg) (s : State) : Result := s.putG d ((s.g m).sshiftRight imm.toNat)

/-- 44 R537. -/
def execMShariL (m : MReg) (imm : BitVec 6) (d : MReg) (s : State) : Result :=
  s.putG d (sext64 ((s.gl m).sshiftRight (immCount5 imm)))

/-! ### Wide immediates -/

/-- 44 R538. -/
def execMMovi (imm : BitVec 16) (d : MReg) (s : State) : Result := s.putG d (sx64 imm 0)

/-- 44 R539. -/
def execMShori (imm : BitVec 16) (d : MReg) (s : State) : Result := s.putG d ((s.g d <<< 16) ||| zx64 imm)

end Sys2Proof.Machine
end

