-- ==== Sys2Proof/Machine/MediaMem.lean ====
section
/-! DEFINITION. The media loads, stores, misaligned pairs, swap, cache and configuration instructions (spec 46). Each
docstring names the rule. In a store the field `d` names the data register. -/

namespace Sys2Proof.Machine

/-! ### Effective addresses and shapes (46 R630, R632) -/

/-- `Rm + disp`, with the displacement already scaled. -/
def State.eaM (s : State) (m : MReg) (disp : Quad) : Quad := s.g m + disp

/-- `Rm + Rn`. -/
def State.eaX (s : State) (m n : MReg) : Quad := s.g m + s.g n

/-- A one-byte store with the next PC `PC + 4`. -/
def State.mstore8 (s : State) (a : Quad) (v : Byte) : Result := s.checkWrite a 1 ((s.write8 a v).retire 4)

/-- A two-byte store with the next PC `PC + 4`. -/
def State.mstore16 (s : State) (a : Quad) (v : Half) : Result := s.checkWrite a 2 ((s.write16 a v).retire 4)

/-- A four-byte store with the next PC `PC + 4`. -/
def State.mstore32 (s : State) (a : Quad) (v : Word) : Result := s.checkWrite a 4 ((s.write32 a v).retire 4)

/-- An eight-byte store with the next PC `PC + 4`. -/
def State.mstore64 (s : State) (a : Quad) (v : Quad) : Result := s.checkWrite a 8 ((s.write64 a v).retire 4)

/-! ### Misaligned pairs (46 R655, R659) -/

/-- The byte accesses of `LoLoad` and `LoStore`: each address with the byte position of the value it holds. -/
def loPlan (e : Endian) (a : Quad) (n : Nat) : List (Quad × Nat) :=
  let o := a.toNat % n
  match e with
  | .little => (List.range (n - o)).map fun i => (a + BitVec.ofNat 64 i, i)
  | .big => (List.range (o + 1)).map fun i => (a - BitVec.ofNat 64 o + BitVec.ofNat 64 i, o - i)

/-- The byte accesses of `HiLoad` and `HiStore`: each address with the byte position of the value it holds. -/
def hiPlan (e : Endian) (a : Quad) (n : Nat) : List (Quad × Nat) :=
  let o := a.toNat % n
  match e with
  | .little => (List.range (o + 1)).map fun i => (a - BitVec.ofNat 64 o + BitVec.ofNat 64 i, n - (o + 1) + i)
  | .big => (List.range (n - o)).map fun i => (a + BitVec.ofNat 64 i, n - 1 - i)

/-- The value assembled from the bytes of a plan. -/
def State.gather (s : State) (plan : List (Quad × Nat)) : Quad :=
  plan.foldl (fun v p => v ||| (s.read8 p.1).setWidth 64 <<< (8 * p.2)) 0

/-- The state after the bytes of a plan are written from `v`. -/
def State.scatter (s : State) (plan : List (Quad × Nat)) (v : Quad) : State :=
  plan.foldl (fun t p => t.write8 p.1 (byteAt v p.2)) s

/-- A load by one-byte accesses: each may fault, none misaligns (20 R86). -/
def State.loadPlan (s : State) (plan : List (Quad × Nat)) (k : Quad → Result) : Result :=
  s.checkReads (plan.map Prod.fst) (k (s.gather plan))

/-- A store by one-byte accesses: if one faults, no byte is written (20 R89). -/
def State.storePlan (s : State) (plan : List (Quad × Nat)) (v : Quad) : Result :=
  s.checkWrites (plan.map Prod.fst) ((s.scatter plan v).retire 4)

/-! ### Displacement loads and stores -/

/-- 46 R635. -/
def execMLdB (m : MReg) (imm : BitVec 10) (d : MReg) (s : State) : Result :=
  s.load8 (s.eaM m (sx64 imm 0)) fun v => s.putG d (v.signExtend 64)

/-- 46 R636. -/
def execMLdW (m : MReg) (imm : BitVec 10) (d : MReg) (s : State) : Result :=
  s.load16 (s.eaM m (sx64 imm 1)) fun v => s.putG d (v.signExtend 64)

/-- 46 R637. -/
def execMLdL (m : MReg) (imm : BitVec 10) (d : MReg) (s : State) : Result :=
  s.load32 (s.eaM m (sx64 imm 2)) fun v => s.putG d (v.signExtend 64)

/-- 46 R638. -/
def execMLdQ (m : MReg) (imm : BitVec 10) (d : MReg) (s : State) : Result :=
  s.load64 (s.eaM m (sx64 imm 3)) fun v => s.putG d v

/-- 46 R639. -/
def execMLdUb (m : MReg) (imm : BitVec 10) (d : MReg) (s : State) : Result :=
  s.load8 (s.eaM m (sx64 imm 0)) fun v => s.putG d (v.setWidth 64)

/-- 46 R640. -/
def execMLdUw (m : MReg) (imm : BitVec 10) (d : MReg) (s : State) : Result :=
  s.load16 (s.eaM m (sx64 imm 1)) fun v => s.putG d (v.setWidth 64)

/-- 46 R641. -/
def execMStB (m : MReg) (imm : BitVec 10) (d : MReg) (s : State) : Result :=
  s.mstore8 (s.eaM m (sx64 imm 0)) ((s.g d).setWidth 8)

/-- 46 R642. -/
def execMStW (m : MReg) (imm : BitVec 10) (d : MReg) (s : State) : Result :=
  s.mstore16 (s.eaM m (sx64 imm 1)) ((s.g d).setWidth 16)

/-- 46 R643. -/
def execMStL (m : MReg) (imm : BitVec 10) (d : MReg) (s : State) : Result :=
  s.mstore32 (s.eaM m (sx64 imm 2)) (low32 (s.g d))

/-- 46 R644. -/
def execMStQ (m : MReg) (imm : BitVec 10) (d : MReg) (s : State) : Result := s.mstore64 (s.eaM m (sx64 imm 3)) (s.g d)

/-! ### Indexed loads and stores -/

/-- 46 R645. -/
def execMLdxB (m n d : MReg) (s : State) : Result := s.load8 (s.eaX m n) fun v => s.putG d (v.signExtend 64)

/-- 46 R646. -/
def execMLdxW (m n d : MReg) (s : State) : Result := s.load16 (s.eaX m n) fun v => s.putG d (v.signExtend 64)

/-- 46 R647. -/
def execMLdxL (m n d : MReg) (s : State) : Result := s.load32 (s.eaX m n) fun v => s.putG d (v.signExtend 64)

/-- 46 R648. -/
def execMLdxQ (m n d : MReg) (s : State) : Result := s.load64 (s.eaX m n) fun v => s.putG d v

/-- 46 R649. -/
def execMLdxUb (m n d : MReg) (s : State) : Result := s.load8 (s.eaX m n) fun v => s.putG d (v.setWidth 64)

/-- 46 R650. -/
def execMLdxUw (m n d : MReg) (s : State) : Result := s.load16 (s.eaX m n) fun v => s.putG d (v.setWidth 64)

/-- 46 R651. -/
def execMStxB (m n d : MReg) (s : State) : Result := s.mstore8 (s.eaX m n) ((s.g d).setWidth 8)

/-- 46 R652. -/
def execMStxW (m n d : MReg) (s : State) : Result := s.mstore16 (s.eaX m n) ((s.g d).setWidth 16)

/-- 46 R653. -/
def execMStxL (m n d : MReg) (s : State) : Result := s.mstore32 (s.eaX m n) (low32 (s.g d))

/-- 46 R654. -/
def execMStxQ (m n d : MReg) (s : State) : Result := s.mstore64 (s.eaX m n) (s.g d)

/-! ### Misaligned-access pairs -/

/-- 46 R655. -/
def execMLdloL (m : MReg) (imm : BitVec 6) (d : MReg) (s : State) : Result :=
  s.loadPlan (loPlan s.endian (s.eaM m (sx64 imm 0)) 4) fun v => s.putG d (sext64 (low32 v))

/-- 46 R656. -/
def execMLdloQ (m : MReg) (imm : BitVec 6) (d : MReg) (s : State) : Result :=
  s.loadPlan (loPlan s.endian (s.eaM m (sx64 imm 0)) 8) fun v => s.putG d v

/-- 46 R657. -/
def execMLdhiL (m : MReg) (imm : BitVec 6) (d : MReg) (s : State) : Result :=
  s.loadPlan (hiPlan s.endian (s.eaM m (sx64 imm 0)) 4) fun v => s.putG d (sext64 (low32 v))

/-- 46 R658. -/
def execMLdhiQ (m : MReg) (imm : BitVec 6) (d : MReg) (s : State) : Result :=
  s.loadPlan (hiPlan s.endian (s.eaM m (sx64 imm 0)) 8) fun v => s.putG d v

/-- 46 R659. -/
def execMStloL (m : MReg) (imm : BitVec 6) (d : MReg) (s : State) : Result :=
  s.storePlan (loPlan s.endian (s.eaM m (sx64 imm 0)) 4) (s.g d)

/-- 46 R660. -/
def execMStloQ (m : MReg) (imm : BitVec 6) (d : MReg) (s : State) : Result :=
  s.storePlan (loPlan s.endian (s.eaM m (sx64 imm 0)) 8) (s.g d)

/-- 46 R661. -/
def execMSthiL (m : MReg) (imm : BitVec 6) (d : MReg) (s : State) : Result :=
  s.storePlan (hiPlan s.endian (s.eaM m (sx64 imm 0)) 4) (s.g d)

/-- 46 R662. -/
def execMSthiQ (m : MReg) (imm : BitVec 6) (d : MReg) (s : State) : Result :=
  s.storePlan (hiPlan s.endian (s.eaM m (sx64 imm 0)) 8) (s.g d)

/-! ### Atomic swap -/

/-- 46 R663. -/
def execMSwapQ (m n d : MReg) (s : State) : Result := s.load64 (s.eaX m n) fun t =>
  s.checkWrite (s.eaX m n) 8 (((s.write64 (s.eaX m n) (s.g d)).setG d t).retire 4)

/-! ### Cache operations: no access, no effect but the next PC (20 R96) -/

/-- 46 R664. -/
def execMPrefi (_m : MReg) (_imm : BitVec 6) (s : State) : Result := s.retire 4

/-- 46 R665. -/
def execMAlloco (_m : MReg) (_imm : BitVec 6) (s : State) : Result := s.retire 4

/-- 46 R666. -/
def execMIcbi (_m : MReg) (_imm : BitVec 6) (s : State) : Result := s.retire 4

/-- 46 R667. -/
def execMOcbp (_m : MReg) (_imm : BitVec 6) (s : State) : Result := s.retire 4

/-- 46 R668. -/
def execMOcbi (_m : MReg) (_imm : BitVec 6) (s : State) : Result := s.retire 4

/-- 46 R669. -/
def execMOcbwb (_m : MReg) (_imm : BitVec 6) (s : State) : Result := s.retire 4

/-! ### Configuration space: refused (60 R856) -/

/-- 46 R670. -/
def execMGetcfg (_m : MReg) (_imm : BitVec 6) (_d : MReg) (s : State) : Result := s.refuse .configSpace

/-- 46 R671. -/
def execMPutcfg (_m : MReg) (_imm : BitVec 6) (_d : MReg) (s : State) : Result := s.refuse .configSpace

end Sys2Proof.Machine
end

