-- ==== Sys2Proof/Machine/MediaFpu.lean ====
section
/-! DEFINITION. The media floating-point instructions (spec 48). Each docstring names the rule. A field that breaks a
constraint of 48 R751 reports InvalidInstruction. -/

namespace Sys2Proof.Machine

/-! ### Arithmetic -/

/-- 48 R755. -/
def execMFabsS (m n d : MReg) (s : State) : Result := s.require (m == n) ((s.setF d (fAbs32 (s.f m))).retire 4)

/-- 48 R756. -/
def execMFabsD (m n d : MReg) (s : State) : Result :=
  s.require (m == n && evenF m && evenF d) ((s.setD d (fAbs64 (s.d m))).retire 4)

/-- 48 R757. -/
def execMFnegS (m n d : MReg) (s : State) : Result := s.require (m == n) ((s.setF d (fNeg32 (s.f m))).retire 4)

/-- 48 R758. -/
def execMFnegD (m n d : MReg) (s : State) : Result :=
  s.require (m == n && evenF m && evenF d) ((s.setD d (fNeg64 (s.d m))).retire 4)

/-- 48 R759. -/
def execMFaddS (m n d : MReg) (s : State) : Result := (s.setF d (fAdd32 (s.f m) (s.f n))).retire 4

/-- 48 R760. -/
def execMFaddD (m n d : MReg) (s : State) : Result :=
  s.require (evenF m && evenF n && evenF d) ((s.setD d (fAdd64 (s.d m) (s.d n))).retire 4)

/-- 48 R761. -/
def execMFsubS (m n d : MReg) (s : State) : Result := (s.setF d (fSub32 (s.f m) (s.f n))).retire 4

/-- 48 R762. -/
def execMFsubD (m n d : MReg) (s : State) : Result :=
  s.require (evenF m && evenF n && evenF d) ((s.setD d (fSub64 (s.d m) (s.d n))).retire 4)

/-- 48 R763. -/
def execMFdivS (m n d : MReg) (s : State) : Result := (s.setF d (fDiv32 (s.f m) (s.f n))).retire 4

/-- 48 R764. -/
def execMFdivD (m n d : MReg) (s : State) : Result :=
  s.require (evenF m && evenF n && evenF d) ((s.setD d (fDiv64 (s.d m) (s.d n))).retire 4)

/-- 48 R765. -/
def execMFmulS (m n d : MReg) (s : State) : Result := (s.setF d (fMul32 (s.f m) (s.f n))).retire 4

/-- 48 R766. -/
def execMFmulD (m n d : MReg) (s : State) : Result :=
  s.require (evenF m && evenF n && evenF d) ((s.setD d (fMul64 (s.d m) (s.d n))).retire 4)

/-- 48 R767. -/
def execMFmacS (m n d : MReg) (s : State) : Result := (s.setF d (fMulAdd32 (s.f m) (s.f n) (s.f d))).retire 4

/-- 48 R768. -/
def execMFsqrtS (m n d : MReg) (s : State) : Result := s.require (m == n) ((s.setF d (fSqrt32 (s.f m))).retire 4)

/-- 48 R769. -/
def execMFsqrtD (m n d : MReg) (s : State) : Result :=
  s.require (m == n && evenF m && evenF d) ((s.setD d (fSqrt64 (s.d m))).retire 4)

/-! ### Comparisons -/

/-- 48 R770. -/
def execMFcmpeqS (m n d : MReg) (s : State) : Result := s.putG d (truth 64 (fCmpEq32 (s.f m) (s.f n)))

/-- 48 R771. -/
def execMFcmpeqD (m n d : MReg) (s : State) : Result :=
  s.require (evenF m && evenF n) (s.putG d (truth 64 (fCmpEq64 (s.d m) (s.d n))))

/-- 48 R772. -/
def execMFcmpunS (m n d : MReg) (s : State) : Result := s.putG d (truth 64 (fCmpUn32 (s.f m) (s.f n)))

/-- 48 R773. -/
def execMFcmpunD (m n d : MReg) (s : State) : Result :=
  s.require (evenF m && evenF n) (s.putG d (truth 64 (fCmpUn64 (s.d m) (s.d n))))

/-- 48 R774. -/
def execMFcmpgtS (m n d : MReg) (s : State) : Result := s.putG d (truth 64 (fCmpGt32 (s.f m) (s.f n)))

/-- 48 R775. -/
def execMFcmpgtD (m n d : MReg) (s : State) : Result :=
  s.require (evenF m && evenF n) (s.putG d (truth 64 (fCmpGt64 (s.d m) (s.d n))))

/-- 48 R776. -/
def execMFcmpgeS (m n d : MReg) (s : State) : Result := s.putG d (truth 64 (fCmpGe32 (s.f m) (s.f n)))

/-- 48 R777. -/
def execMFcmpgeD (m n d : MReg) (s : State) : Result :=
  s.require (evenF m && evenF n) (s.putG d (truth 64 (fCmpGe64 (s.d m) (s.d n))))

/-! ### Moves and conversions -/

/-- 48 R778. -/
def execMFmovS (m n d : MReg) (s : State) : Result := s.require (m == n) ((s.setF d (s.f m)).retire 4)

/-- 48 R779. -/
def execMFmovD (m n d : MReg) (s : State) : Result :=
  s.require (m == n && evenF m && evenF d) ((s.setD d (s.d m)).retire 4)

/-- 48 R780. -/
def execMFcnvSd (m n d : MReg) (s : State) : Result :=
  s.require (m == n && evenF d) ((s.setD d (fCvtF32toF64 (s.f m))).retire 4)

/-- 48 R781. -/
def execMFcnvDs (m n d : MReg) (s : State) : Result :=
  s.require (m == n && evenF m) ((s.setF d (fCvtF64toF32 (s.d m))).retire 4)

/-- 48 R782. -/
def execMFtrcSl (m n d : MReg) (s : State) : Result := s.require (m == n) ((s.setF d (fCvtF32toI32 (s.f m))).retire 4)

/-- 48 R783. -/
def execMFtrcDq (m n d : MReg) (s : State) : Result :=
  s.require (m == n && evenF m && evenF d) ((s.setD d (fCvtF64toI64 (s.d m))).retire 4)

/-- 48 R784. -/
def execMFtrcSq (m n d : MReg) (s : State) : Result :=
  s.require (m == n && evenF d) ((s.setD d (fCvtF32toI64 (s.f m))).retire 4)

/-- 48 R785. -/
def execMFtrcDl (m n d : MReg) (s : State) : Result :=
  s.require (m == n && evenF m) ((s.setF d (fCvtF64toI32 (s.d m))).retire 4)

/-- 48 R786. -/
def execMFloatLs (m n d : MReg) (s : State) : Result := s.require (m == n) ((s.setF d (fCvtI32toF32 (s.f m))).retire 4)

/-- 48 R787. -/
def execMFloatQd (m n d : MReg) (s : State) : Result :=
  s.require (m == n && evenF m && evenF d) ((s.setD d (fCvtI64toF64 (s.d m))).retire 4)

/-- 48 R788. -/
def execMFloatLd (m n d : MReg) (s : State) : Result :=
  s.require (m == n && evenF d) ((s.setD d (fCvtI32toF64 (s.f m))).retire 4)

/-- 48 R789. -/
def execMFloatQs (m n d : MReg) (s : State) : Result :=
  s.require (m == n && evenF m) ((s.setF d (fCvtI64toF32 (s.d m))).retire 4)

/-- 48 R790. -/
def execMFmovSl (m n d : MReg) (s : State) : Result := s.require (m == n) (s.putG d (sext64 (s.f m)))

/-- 48 R791. -/
def execMFmovDq (m n d : MReg) (s : State) : Result := s.require (m == n && evenF m) (s.putG d (s.d m))

/-- 48 R792. -/
def execMFmovLs (m d : MReg) (s : State) : Result := (s.setF d (low32 (s.g m))).retire 4

/-- 48 R793. -/
def execMFmovQd (m d : MReg) (s : State) : Result := s.require (evenF d) ((s.setD d (s.g m)).retire 4)

/-- 48 R794. -/
def execMFgetscr (d : MReg) (s : State) : Result := (s.setF d s.fpscr).retire 4

/-- 48 R795. -/
def execMFputscr (m n : MReg) (s : State) : Result := s.require (m == n) ((s.setFpscr (s.f m)).retire 4)

/-! ### Vector operations -/

/-- 48 R796. -/
def execMFiprS (m n d : MReg) (s : State) : Result :=
  s.require (mult4 m && mult4 n) ((s.setF d (fDot4 (s.fv m) (s.fv n))).retire 4)

/-- 48 R797. -/
def execMFtrvS (m n d : MReg) (s : State) : Result :=
  s.require (mult16 m && mult4 n && mult4 d) ((s.setFv d (fMtrx (s.mtrx m) (s.fv n))).retire 4)

/-! ### FP loads and stores: bit copies (48 R748) -/

/-- 48 R798. -/
def execMFldS (m : MReg) (imm : BitVec 10) (d : MReg) (s : State) : Result :=
  s.load32 (s.eaM m (sx64 imm 2)) fun v => (s.setF d v).retire 4

/-- 48 R799. -/
def execMFldP (m : MReg) (imm : BitVec 10) (d : MReg) (s : State) : Result :=
  s.require (evenF d) (s.loadPair (s.eaM m (sx64 imm 3)) fun v => (s.setD d v).retire 4)

/-- 48 R800. -/
def execMFldD (m : MReg) (imm : BitVec 10) (d : MReg) (s : State) : Result :=
  s.require (evenF d) (s.load64 (s.eaM m (sx64 imm 3)) fun v => (s.setD d v).retire 4)

/-- 48 R801. -/
def execMFstS (m : MReg) (imm : BitVec 10) (d : MReg) (s : State) : Result := s.mstore32 (s.eaM m (sx64 imm 2)) (s.f d)

/-- 48 R802. -/
def execMFstP (m : MReg) (imm : BitVec 10) (d : MReg) (s : State) : Result :=
  s.require (evenF d) (s.checkPair (s.eaM m (sx64 imm 3)) ((s.writePair (s.eaM m (sx64 imm 3)) (s.d d)).retire 4))

/-- 48 R803. -/
def execMFstD (m : MReg) (imm : BitVec 10) (d : MReg) (s : State) : Result :=
  s.require (evenF d) (s.mstore64 (s.eaM m (sx64 imm 3)) (s.d d))

/-- 48 R804. -/
def execMFldxS (m n d : MReg) (s : State) : Result := s.load32 (s.eaX m n) fun v => (s.setF d v).retire 4

/-- 48 R805. -/
def execMFldxD (m n d : MReg) (s : State) : Result :=
  s.require (evenF d) (s.load64 (s.eaX m n) fun v => (s.setD d v).retire 4)

/-- 48 R806. -/
def execMFldxP (m n d : MReg) (s : State) : Result :=
  s.require (evenF d) (s.loadPair (s.eaX m n) fun v => (s.setD d v).retire 4)

/-- 48 R807. -/
def execMFstxS (m n d : MReg) (s : State) : Result := s.mstore32 (s.eaX m n) (s.f d)

/-- 48 R808. -/
def execMFstxD (m n d : MReg) (s : State) : Result := s.require (evenF d) (s.mstore64 (s.eaX m n) (s.d d))

/-- 48 R809. -/
def execMFstxP (m n d : MReg) (s : State) : Result :=
  s.require (evenF d) (s.checkPair (s.eaX m n) ((s.writePair (s.eaX m n) (s.d d)).retire 4))

end Sys2Proof.Machine
end

