-- ==== Sys2Proof/Machine/MediaPacked.lean ====
section
/-! DEFINITION. The media packed-lane instructions (spec 45). Sub-fields are named by bit position from the
least significant end (45 R560). Each docstring names the rule. -/

namespace Sys2Proof.Machine

/-- The bits of the 16-byte value `Rn : Rm` from byte `k` up (45 R587). -/
def extractBytes (rm rn : Quad) (k : Nat) : Quad := (rn ++ rm).extractLsb' (8 * k) 64

/-- The saturated doubled product of the words at position `j` (45 R594). -/
def fracProduct (x y : Quad) (j : Nat) : Word := satS 32 (2 * (wordAt x j).toInt * (wordAt y j).toInt)

/-- The exact product of the signed words at position `j`. -/
def wordProduct (x y : Quad) (j : Nat) : Int := (wordAt x j).toInt * (wordAt y j).toInt

/-- The exact product of the signed longs at position `j`. -/
def longProduct (x y : Quad) (j : Nat) : Int := (longAt x j).toInt * (longAt y j).toInt

/-- The absolute difference of the unsigned bytes at position `j` (45 R605). -/
def byteDistance (x y : Quad) (j : Nat) : Nat := ((byteAt x j).toNat - (byteAt y j).toNat : Int).natAbs

/-- A word shift count: bits 3:0 (45 R606). -/
def countW (v : Quad) : Nat := (v.extractLsb' 0 4).toNat

/-- A long shift count: bits 4:0 (45 R607). -/
def countL (v : Quad) : Nat := (v.extractLsb' 0 5).toNat

/-! ### Add and subtract -/

/-- 45 R565. -/
def execMMaddW (m n d : MReg) (s : State) : Result := s.putG d (packW fun j => wordAt (s.g m) j + wordAt (s.g n) j)

/-- 45 R566. -/
def execMMaddL (m n d : MReg) (s : State) : Result := s.putG d (packL fun j => longAt (s.g m) j + longAt (s.g n) j)

/-- 45 R567. -/
def execMMaddsUb (m n d : MReg) (s : State) : Result :=
  s.putG d (packB fun j => satU 8 ((byteAt (s.g m) j).toNat + (byteAt (s.g n) j).toNat : Int))

/-- 45 R568. -/
def execMMaddsW (m n d : MReg) (s : State) : Result :=
  s.putG d (packW fun j => satS 16 ((wordAt (s.g m) j).toInt + (wordAt (s.g n) j).toInt))

/-- 45 R569. -/
def execMMaddsL (m n d : MReg) (s : State) : Result :=
  s.putG d (packL fun j => satS 32 ((longAt (s.g m) j).toInt + (longAt (s.g n) j).toInt))

/-- 45 R570. -/
def execMMsubW (m n d : MReg) (s : State) : Result := s.putG d (packW fun j => wordAt (s.g m) j - wordAt (s.g n) j)

/-- 45 R571. -/
def execMMsubL (m n d : MReg) (s : State) : Result := s.putG d (packL fun j => longAt (s.g m) j - longAt (s.g n) j)

/-- 45 R572. -/
def execMMsubsUb (m n d : MReg) (s : State) : Result :=
  s.putG d (packB fun j => satU 8 ((byteAt (s.g m) j).toNat - (byteAt (s.g n) j).toNat : Int))

/-- 45 R573. -/
def execMMsubsW (m n d : MReg) (s : State) : Result :=
  s.putG d (packW fun j => satS 16 ((wordAt (s.g m) j).toInt - (wordAt (s.g n) j).toInt))

/-- 45 R574. -/
def execMMsubsL (m n d : MReg) (s : State) : Result :=
  s.putG d (packL fun j => satS 32 ((longAt (s.g m) j).toInt - (longAt (s.g n) j).toInt))

/-! ### Absolute value, compare and conditional move -/

/-- 45 R575. -/
def execMMabsW (m d : MReg) (s : State) : Result := s.putG d (packW fun j => satS 16 (wordAt (s.g m) j).toInt.natAbs)

/-- 45 R576. -/
def execMMabsL (m d : MReg) (s : State) : Result := s.putG d (packL fun j => satS 32 (longAt (s.g m) j).toInt.natAbs)

/-- 45 R577. -/
def execMMcmpeqB (m n d : MReg) (s : State) : Result :=
  s.putG d (packB fun j => laneMask 8 (byteAt (s.g m) j == byteAt (s.g n) j))

/-- 45 R578. -/
def execMMcmpeqW (m n d : MReg) (s : State) : Result :=
  s.putG d (packW fun j => laneMask 16 (wordAt (s.g m) j == wordAt (s.g n) j))

/-- 45 R579. -/
def execMMcmpeqL (m n d : MReg) (s : State) : Result :=
  s.putG d (packL fun j => laneMask 32 (longAt (s.g m) j == longAt (s.g n) j))

/-- 45 R580. -/
def execMMcmpgtUb (m n d : MReg) (s : State) : Result :=
  s.putG d (packB fun j => laneMask 8 (BitVec.ult (byteAt (s.g n) j) (byteAt (s.g m) j)))

/-- 45 R581. -/
def execMMcmpgtW (m n d : MReg) (s : State) : Result :=
  s.putG d (packW fun j => laneMask 16 (BitVec.slt (wordAt (s.g n) j) (wordAt (s.g m) j)))

/-- 45 R582. -/
def execMMcmpgtL (m n d : MReg) (s : State) : Result :=
  s.putG d (packL fun j => laneMask 32 (BitVec.slt (longAt (s.g n) j) (longAt (s.g m) j)))

/-- 45 R583. -/
def execMMcmv (m n d : MReg) (s : State) : Result := s.putG d ((s.g m &&& s.g n) ||| (s.g d &&& ~~~s.g n))

/-! ### Saturating narrowing conversions -/

/-- 45 R584. -/
def execMMcnvsLw (m n d : MReg) (s : State) : Result :=
  s.putG d (packW fun j => satS 16 (longAt (if j < 2 then s.g m else s.g n) (j % 2)).toInt)

/-- 45 R585. -/
def execMMcnvsWb (m n d : MReg) (s : State) : Result :=
  s.putG d (packB fun j => satS 8 (wordAt (if j < 4 then s.g m else s.g n) (j % 4)).toInt)

/-- 45 R586. -/
def execMMcnvsWub (m n d : MReg) (s : State) : Result :=
  s.putG d (packB fun j => satU 8 (wordAt (if j < 4 then s.g m else s.g n) (j % 4)).toInt)

/-! ### Byte extraction -/

/-- 45 R587. -/
def execMMextr1 (m n d : MReg) (s : State) : Result := s.putG d (extractBytes (s.g m) (s.g n) 1)

/-- 45 R588. -/
def execMMextr2 (m n d : MReg) (s : State) : Result := s.putG d (extractBytes (s.g m) (s.g n) 2)

/-- 45 R589. -/
def execMMextr3 (m n d : MReg) (s : State) : Result := s.putG d (extractBytes (s.g m) (s.g n) 3)

/-- 45 R590. -/
def execMMextr4 (m n d : MReg) (s : State) : Result := s.putG d (extractBytes (s.g m) (s.g n) 4)

/-- 45 R591. -/
def execMMextr5 (m n d : MReg) (s : State) : Result := s.putG d (extractBytes (s.g m) (s.g n) 5)

/-- 45 R592. -/
def execMMextr6 (m n d : MReg) (s : State) : Result := s.putG d (extractBytes (s.g m) (s.g n) 6)

/-- 45 R593. -/
def execMMextr7 (m n d : MReg) (s : State) : Result := s.putG d (extractBytes (s.g m) (s.g n) 7)

/-! ### Multiplies -/

/-- 45 R594. -/
def execMMmacfxWl (m n d : MReg) (s : State) : Result :=
  s.putG d (packL fun j => satS 32 ((longAt (s.g d) j).toInt + (fracProduct (s.g m) (s.g n) j).toInt))

/-- 45 R595. -/
def execMMmacnfxWl (m n d : MReg) (s : State) : Result :=
  s.putG d (packL fun j => satS 32 ((longAt (s.g d) j).toInt - (fracProduct (s.g m) (s.g n) j).toInt))

/-- 45 R596. -/
def execMMmulW (m n d : MReg) (s : State) : Result := s.putG d (packW fun j => wordAt (s.g m) j * wordAt (s.g n) j)

/-- 45 R597. -/
def execMMmulL (m n d : MReg) (s : State) : Result := s.putG d (packL fun j => longAt (s.g m) j * longAt (s.g n) j)

/-- 45 R598. -/
def execMMmulfxW (m n d : MReg) (s : State) : Result :=
  s.putG d (packW fun j => satS 16 (wordProduct (s.g m) (s.g n) j / 2 ^ 15))

/-- 45 R599. -/
def execMMmulfxL (m n d : MReg) (s : State) : Result :=
  s.putG d (packL fun j => satS 32 (longProduct (s.g m) (s.g n) j / 2 ^ 31))

/-- 45 R600. -/
def execMMmulfxrpW (m n d : MReg) (s : State) : Result :=
  s.putG d (packW fun j => satS 16 ((wordProduct (s.g m) (s.g n) j + 0x4000) / 2 ^ 15))

/-- 45 R601. -/
def execMMmulhiWl (m n d : MReg) (s : State) : Result :=
  s.putG d (packL fun j => BitVec.ofInt 32 (wordProduct (s.g m) (s.g n) (j + 2)))

/-- 45 R602. -/
def execMMmulloWl (m n d : MReg) (s : State) : Result :=
  s.putG d (packL fun j => BitVec.ofInt 32 (wordProduct (s.g m) (s.g n) j))

/-- 45 R603. -/
def execMMmulsumWq (m n d : MReg) (s : State) : Result := let p := wordProduct (s.g m) (s.g n)
  s.putG d (s.g d + BitVec.ofInt 64 (p 0 + p 1 + p 2 + p 3))

/-! ### Permute and sum of absolute differences -/

/-- 45 R604. -/
def execMMpermW (m n d : MReg) (s : State) : Result :=
  s.putG d (packW fun j => wordAt (s.g m) ((s.g n).extractLsb' (2 * j) 2).toNat)

/-- 45 R605. -/
def execMMsadUbq (m n d : MReg) (s : State) : Result := let b := byteDistance (s.g m) (s.g n)
  s.putG d (s.g d + BitVec.ofNat 64 (b 0 + b 1 + b 2 + b 3 + b 4 + b 5 + b 6 + b 7))

/-! ### Lane shifts -/

/-- 45 R606. -/
def execMMshaldsW (m n d : MReg) (s : State) : Result :=
  s.putG d (packW fun j => satS 16 ((wordAt (s.g m) j).toInt * 2 ^ countW (s.g n)))

/-- 45 R607. -/
def execMMshaldsL (m n d : MReg) (s : State) : Result :=
  s.putG d (packL fun j => satS 32 ((longAt (s.g m) j).toInt * 2 ^ countL (s.g n)))

/-- 45 R608. -/
def execMMshardW (m n d : MReg) (s : State) : Result :=
  s.putG d (packW fun j => (wordAt (s.g m) j).sshiftRight (countW (s.g n)))

/-- 45 R609. -/
def execMMshardL (m n d : MReg) (s : State) : Result :=
  s.putG d (packL fun j => (longAt (s.g m) j).sshiftRight (countL (s.g n)))

/-- 45 R610. -/
def execMMshardsQ (m n d : MReg) (s : State) : Result :=
  s.putG d ((satS 16 ((s.g m).toInt / 2 ^ ((s.g n).extractLsb' 0 6).toNat)).signExtend 64)

/-- 45 R611. -/
def execMMshlldW (m n d : MReg) (s : State) : Result := s.putG d (packW fun j => wordAt (s.g m) j <<< countW (s.g n))

/-- 45 R612. -/
def execMMshlldL (m n d : MReg) (s : State) : Result := s.putG d (packL fun j => longAt (s.g m) j <<< countL (s.g n))

/-- 45 R613. -/
def execMMshlrdW (m n d : MReg) (s : State) : Result := s.putG d (packW fun j => wordAt (s.g m) j >>> countW (s.g n))

/-- 45 R614. -/
def execMMshlrdL (m n d : MReg) (s : State) : Result := s.putG d (packL fun j => longAt (s.g m) j >>> countL (s.g n))

/-! ### Shuffles -/

/-- 45 R615. -/
def execMMshfloB (m n d : MReg) (s : State) : Result :=
  s.putG d (packB fun j => byteAt (if j % 2 = 0 then s.g m else s.g n) (j / 2))

/-- 45 R616. -/
def execMMshfloW (m n d : MReg) (s : State) : Result :=
  s.putG d (packW fun j => wordAt (if j % 2 = 0 then s.g m else s.g n) (j / 2))

/-- 45 R617. -/
def execMMshfloL (m n d : MReg) (s : State) : Result :=
  s.putG d (packL fun j => longAt (if j = 0 then s.g m else s.g n) 0)

/-- 45 R618. -/
def execMMshfhiB (m n d : MReg) (s : State) : Result :=
  s.putG d (packB fun j => byteAt (if j % 2 = 0 then s.g m else s.g n) (j / 2 + 4))

/-- 45 R619. -/
def execMMshfhiW (m n d : MReg) (s : State) : Result :=
  s.putG d (packW fun j => wordAt (if j % 2 = 0 then s.g m else s.g n) (j / 2 + 2))

/-- 45 R620. -/
def execMMshfhiL (m n d : MReg) (s : State) : Result :=
  s.putG d (packL fun j => longAt (if j = 0 then s.g m else s.g n) 1)

end Sys2Proof.Machine
end

