-- ==== Sys2Proof/Machine/MediaSystem.lean ====
section
/-! DEFINITION. The media prepare-target, branch, control-register and system instructions (spec 47). Each
docstring names the rule. -/

namespace Sys2Proof.Machine

/-- A media branch through a target register: taken, `SetPCTagged(TR[a])`; not taken, `PC + 4` (47 R681). -/
def State.branchTr (s : State) (taken : Bool) (a : TReg) : Result :=
  if taken then (s.setPCTagged (s.t a)).complete else s.retire 4

/-! ### Prepare-target instructions: the likely bit has no effect (30 R120) -/

/-- 47 R683. -/
def execMPta (imm : BitVec 16) (_l : BitVec 1) (a : TReg) (s : State) : Result :=
  (s.setTr a (s.pc + sx64 imm 2 + 1)).retire 4

/-- 47 R684. -/
def execMPtb (imm : BitVec 16) (_l : BitVec 1) (a : TReg) (s : State) : Result :=
  (s.setTr a (s.pc + sx64 imm 2)).retire 4

/-- 47 R685. -/
def execMPtabs (n : MReg) (_l : BitVec 1) (a : TReg) (s : State) : Result := (s.setTr a (s.g n)).retire 4

/-- 47 R686. -/
def execMPtrel (n : MReg) (_l : BitVec 1) (a : TReg) (s : State) : Result := (s.setTr a (s.pc + s.g n)).retire 4

/-- 47 R687. -/
def execMGettr (b : TReg) (d : MReg) (s : State) : Result := s.putG d (s.t b)

/-! ### Branches -/

/-- 47 R688. -/
def execMBlink (b : TReg) (d : MReg) (s : State) : Result := ((s.setG d (s.taggedPC + 4)).setPCTagged (s.t b)).complete

/-- 47 R689. -/
def execMBeq (m n : MReg) (_l : BitVec 1) (a : TReg) (s : State) : Result := s.branchTr (s.g m == s.g n) a

/-- 47 R690. -/
def execMBge (m n : MReg) (_l : BitVec 1) (a : TReg) (s : State) : Result := s.branchTr (BitVec.sle (s.g n) (s.g m)) a

/-- 47 R691. -/
def execMBne (m n : MReg) (_l : BitVec 1) (a : TReg) (s : State) : Result := s.branchTr (s.g m != s.g n) a

/-- 47 R692. -/
def execMBgt (m n : MReg) (_l : BitVec 1) (a : TReg) (s : State) : Result := s.branchTr (BitVec.slt (s.g n) (s.g m)) a

/-- 47 R693. -/
def execMBgeu (m n : MReg) (_l : BitVec 1) (a : TReg) (s : State) : Result := s.branchTr (BitVec.ule (s.g n) (s.g m)) a

/-- 47 R694. -/
def execMBgtu (m n : MReg) (_l : BitVec 1) (a : TReg) (s : State) : Result := s.branchTr (BitVec.ult (s.g n) (s.g m)) a

/-- 47 R695. -/
def execMBeqi (m : MReg) (imm : BitVec 6) (_l : BitVec 1) (a : TReg) (s : State) : Result :=
  s.branchTr (s.g m == sx64 imm 0) a

/-- 47 R696. -/
def execMBnei (m : MReg) (imm : BitVec 6) (_l : BitVec 1) (a : TReg) (s : State) : Result :=
  s.branchTr (s.g m != sx64 imm 0) a

/-! ### Control registers: no privilege check (60 R860) -/

/-- 47 R697. -/
def execMGetcon (m d : MReg) (s : State) : Result := s.putG d (s.c m)

/-- 47 R698. -/
def execMPutcon (m d : MReg) (s : State) : Result := (s.setC d (s.g m)).retire 4

/-! ### Traps and system instructions -/

/-- 47 R699. -/
def execMTrapa (m : MReg) (s : State) : Result := s.trap (.trapa (s.g m)) 4

/-- 47 R700. -/
def execMBrk (s : State) : Result := s.trap .brk 4

/-- 47 R701. Refused: the engine has no exception entry to return from (60 R856, R862). -/
def execMRte (s : State) : Result := s.refuse .exceptionReturn

/-- 47 R702. Refused: the engine has no power state (60 R856, R872). -/
def execMSleep (s : State) : Result := s.refuse .powerState

/-- 47 R703. -/
def execMSynci (s : State) : Result := s.retire 4

/-- 47 R704. -/
def execMSynco (s : State) : Result := s.retire 4

/-- 47 R705. -/
def execMNop (s : State) : Result := s.retire 4

end Sys2Proof.Machine
end

