-- ==== Sys2Proof/Machine/Dispatch.lean ====
section
/-! DEFINITION. The meaning of every instruction: one arm per constructor, each one direct call (49 R820, R825). -/

namespace Sys2Proof.Machine

def exec (i : Instr) (s : State) : Host.Outcome State Fault Refusal :=
  match i with
  | .cAdd m n => Sys2Proof.Machine.execCAdd m n s
  | .cAddImm imm n => Sys2Proof.Machine.execCAddImm imm n s
  | .cAddc m n => Sys2Proof.Machine.execCAddc m n s
  | .cAddv m n => Sys2Proof.Machine.execCAddv m n s
  | .cCmpEqImm imm => Sys2Proof.Machine.execCCmpEqImm imm s
  | .cCmpEq m n => Sys2Proof.Machine.execCCmpEq m n s
  | .cCmpHs m n => Sys2Proof.Machine.execCCmpHs m n s
  | .cCmpGe m n => Sys2Proof.Machine.execCCmpGe m n s
  | .cCmpHi m n => Sys2Proof.Machine.execCCmpHi m n s
  | .cCmpGt m n => Sys2Proof.Machine.execCCmpGt m n s
  | .cCmpPz n => Sys2Proof.Machine.execCCmpPz n s
  | .cCmpPl n => Sys2Proof.Machine.execCCmpPl n s
  | .cCmpStr m n => Sys2Proof.Machine.execCCmpStr m n s
  | .cDiv0s m n => Sys2Proof.Machine.execCDiv0s m n s
  | .cDiv0u => Sys2Proof.Machine.execCDiv0u s
  | .cDiv1 m n => Sys2Proof.Machine.execCDiv1 m n s
  | .cDivu n => Sys2Proof.Machine.execCDivu n s
  | .cDmulsL m n => Sys2Proof.Machine.execCDmulsL m n s
  | .cDmuluL m n => Sys2Proof.Machine.execCDmuluL m n s
  | .cDt n => Sys2Proof.Machine.execCDt n s
  | .cExtsB m n => Sys2Proof.Machine.execCExtsB m n s
  | .cExtsW m n => Sys2Proof.Machine.execCExtsW m n s
  | .cExtuB m n => Sys2Proof.Machine.execCExtuB m n s
  | .cExtuW m n => Sys2Proof.Machine.execCExtuW m n s
  | .cMacL m n => Sys2Proof.Machine.execCMacL m n s
  | .cMacW m n => Sys2Proof.Machine.execCMacW m n s
  | .cMulL m n => Sys2Proof.Machine.execCMulL m n s
  | .cMulr n => Sys2Proof.Machine.execCMulr n s
  | .cMulsW m n => Sys2Proof.Machine.execCMulsW m n s
  | .cMuluW m n => Sys2Proof.Machine.execCMuluW m n s
  | .cNeg m n => Sys2Proof.Machine.execCNeg m n s
  | .cNegc m n => Sys2Proof.Machine.execCNegc m n s
  | .cSub m n => Sys2Proof.Machine.execCSub m n s
  | .cSubc m n => Sys2Proof.Machine.execCSubc m n s
  | .cSubv m n => Sys2Proof.Machine.execCSubv m n s
  | .cAnd m n => Sys2Proof.Machine.execCAnd m n s
  | .cAndImm imm => Sys2Proof.Machine.execCAndImm imm s
  | .cAndB imm => Sys2Proof.Machine.execCAndB imm s
  | .cNot m n => Sys2Proof.Machine.execCNot m n s
  | .cOr m n => Sys2Proof.Machine.execCOr m n s
  | .cOrImm imm => Sys2Proof.Machine.execCOrImm imm s
  | .cOrB imm => Sys2Proof.Machine.execCOrB imm s
  | .cTasB n => Sys2Proof.Machine.execCTasB n s
  | .cTst m n => Sys2Proof.Machine.execCTst m n s
  | .cTstImm imm => Sys2Proof.Machine.execCTstImm imm s
  | .cTstB imm => Sys2Proof.Machine.execCTstB imm s
  | .cXor m n => Sys2Proof.Machine.execCXor m n s
  | .cXorImm imm => Sys2Proof.Machine.execCXorImm imm s
  | .cXorB imm => Sys2Proof.Machine.execCXorB imm s
  | .cRotl n => Sys2Proof.Machine.execCRotl n s
  | .cRotr n => Sys2Proof.Machine.execCRotr n s
  | .cRotcl n => Sys2Proof.Machine.execCRotcl n s
  | .cRotcr n => Sys2Proof.Machine.execCRotcr n s
  | .cShad m n => Sys2Proof.Machine.execCShad m n s
  | .cShal n => Sys2Proof.Machine.execCShal n s
  | .cShar n => Sys2Proof.Machine.execCShar n s
  | .cShld m n => Sys2Proof.Machine.execCShld m n s
  | .cShll n => Sys2Proof.Machine.execCShll n s
  | .cShll2 n => Sys2Proof.Machine.execCShll2 n s
  | .cShll8 n => Sys2Proof.Machine.execCShll8 n s
  | .cShll16 n => Sys2Proof.Machine.execCShll16 n s
  | .cShlr n => Sys2Proof.Machine.execCShlr n s
  | .cShlr2 n => Sys2Proof.Machine.execCShlr2 n s
  | .cShlr8 n => Sys2Proof.Machine.execCShlr8 n s
  | .cShlr16 n => Sys2Proof.Machine.execCShlr16 n s
  | .cMov m n => Sys2Proof.Machine.execCMov m n s
  | .cMovImm imm n => Sys2Proof.Machine.execCMovImm imm n s
  | .cMovi20 imm n => Sys2Proof.Machine.execCMovi20 imm n s
  | .cMovi20s imm n => Sys2Proof.Machine.execCMovi20s imm n s
  | .cMova disp => Sys2Proof.Machine.execCMova disp s
  | .cMovWLoadPc disp n => Sys2Proof.Machine.execCMovWLoadPc disp n s
  | .cMovLLoadPc disp n => Sys2Proof.Machine.execCMovLLoadPc disp n s
  | .cMovBLoad m n => Sys2Proof.Machine.execCMovBLoad m n s
  | .cMovWLoad m n => Sys2Proof.Machine.execCMovWLoad m n s
  | .cMovLLoad m n => Sys2Proof.Machine.execCMovLLoad m n s
  | .cMovBLoadInc m n => Sys2Proof.Machine.execCMovBLoadInc m n s
  | .cMovWLoadInc m n => Sys2Proof.Machine.execCMovWLoadInc m n s
  | .cMovLLoadInc m n => Sys2Proof.Machine.execCMovLLoadInc m n s
  | .cMovBLoadIdx m n => Sys2Proof.Machine.execCMovBLoadIdx m n s
  | .cMovWLoadIdx m n => Sys2Proof.Machine.execCMovWLoadIdx m n s
  | .cMovLLoadIdx m n => Sys2Proof.Machine.execCMovLLoadIdx m n s
  | .cMovBLoadDisp m disp => Sys2Proof.Machine.execCMovBLoadDisp m disp s
  | .cMovWLoadDisp m disp => Sys2Proof.Machine.execCMovWLoadDisp m disp s
  | .cMovLLoadDisp m disp n => Sys2Proof.Machine.execCMovLLoadDisp m disp n s
  | .cMovLLoadDisp12 m disp n => Sys2Proof.Machine.execCMovLLoadDisp12 m disp n s
  | .cMovBLoadGbr disp => Sys2Proof.Machine.execCMovBLoadGbr disp s
  | .cMovWLoadGbr disp => Sys2Proof.Machine.execCMovWLoadGbr disp s
  | .cMovLLoadGbr disp => Sys2Proof.Machine.execCMovLLoadGbr disp s
  | .cMovuaL m => Sys2Proof.Machine.execCMovuaL m s
  | .cMovuaLInc m => Sys2Proof.Machine.execCMovuaLInc m s
  | .cMovBStore m n => Sys2Proof.Machine.execCMovBStore m n s
  | .cMovWStore m n => Sys2Proof.Machine.execCMovWStore m n s
  | .cMovLStore m n => Sys2Proof.Machine.execCMovLStore m n s
  | .cMovBStoreDec m n => Sys2Proof.Machine.execCMovBStoreDec m n s
  | .cMovWStoreDec m n => Sys2Proof.Machine.execCMovWStoreDec m n s
  | .cMovLStoreDec m n => Sys2Proof.Machine.execCMovLStoreDec m n s
  | .cMovBStoreIdx m n => Sys2Proof.Machine.execCMovBStoreIdx m n s
  | .cMovWStoreIdx m n => Sys2Proof.Machine.execCMovWStoreIdx m n s
  | .cMovLStoreIdx m n => Sys2Proof.Machine.execCMovLStoreIdx m n s
  | .cMovBStoreDisp disp n => Sys2Proof.Machine.execCMovBStoreDisp disp n s
  | .cMovWStoreDisp disp n => Sys2Proof.Machine.execCMovWStoreDisp disp n s
  | .cMovLStoreDisp m disp n => Sys2Proof.Machine.execCMovLStoreDisp m disp n s
  | .cMovLStoreDisp12 m disp n => Sys2Proof.Machine.execCMovLStoreDisp12 m disp n s
  | .cMovBStoreGbr disp => Sys2Proof.Machine.execCMovBStoreGbr disp s
  | .cMovWStoreGbr disp => Sys2Proof.Machine.execCMovWStoreGbr disp s
  | .cMovLStoreGbr disp => Sys2Proof.Machine.execCMovLStoreGbr disp s
  | .cMovcaL n => Sys2Proof.Machine.execCMovcaL n s
  | .cMovcoL n => Sys2Proof.Machine.execCMovcoL n s
  | .cMovliL m => Sys2Proof.Machine.execCMovliL m s
  | .cMovt n => Sys2Proof.Machine.execCMovt n s
  | .cSwapB m n => Sys2Proof.Machine.execCSwapB m n s
  | .cSwapW m n => Sys2Proof.Machine.execCSwapW m n s
  | .cXtrct m n => Sys2Proof.Machine.execCXtrct m n s
  | .cBf disp => Sys2Proof.Machine.execCBf disp s
  | .cBfS disp => Sys2Proof.Machine.execCBfS disp s
  | .cBt disp => Sys2Proof.Machine.execCBt disp s
  | .cBtS disp => Sys2Proof.Machine.execCBtS disp s
  | .cBra disp => Sys2Proof.Machine.execCBra disp s
  | .cBraf m => Sys2Proof.Machine.execCBraf m s
  | .cBsr disp => Sys2Proof.Machine.execCBsr disp s
  | .cBsrf m => Sys2Proof.Machine.execCBsrf m s
  | .cJmp m => Sys2Proof.Machine.execCJmp m s
  | .cJsr m => Sys2Proof.Machine.execCJsr m s
  | .cRts => Sys2Proof.Machine.execCRts s
  | .cClrmac => Sys2Proof.Machine.execCClrmac s
  | .cClrs => Sys2Proof.Machine.execCClrs s
  | .cClrt => Sys2Proof.Machine.execCClrt s
  | .cSets => Sys2Proof.Machine.execCSets s
  | .cSett => Sys2Proof.Machine.execCSett s
  | .cNop => Sys2Proof.Machine.execCNop s
  | .cLdcSr m => Sys2Proof.Machine.execCLdcSr m s
  | .cLdcGbr m => Sys2Proof.Machine.execCLdcGbr m s
  | .cLdcVbr m => Sys2Proof.Machine.execCLdcVbr m s
  | .cLdcLGbr m => Sys2Proof.Machine.execCLdcLGbr m s
  | .cLdcLVbr m => Sys2Proof.Machine.execCLdcLVbr m s
  | .cLdsMach m => Sys2Proof.Machine.execCLdsMach m s
  | .cLdsMacl m => Sys2Proof.Machine.execCLdsMacl m s
  | .cLdsPr m => Sys2Proof.Machine.execCLdsPr m s
  | .cLdsLMach m => Sys2Proof.Machine.execCLdsLMach m s
  | .cLdsLMacl m => Sys2Proof.Machine.execCLdsLMacl m s
  | .cLdsLPr m => Sys2Proof.Machine.execCLdsLPr m s
  | .cStcGbr n => Sys2Proof.Machine.execCStcGbr n s
  | .cStcVbr n => Sys2Proof.Machine.execCStcVbr n s
  | .cStcLGbr n => Sys2Proof.Machine.execCStcLGbr n s
  | .cStcLVbr n => Sys2Proof.Machine.execCStcLVbr n s
  | .cStsMach n => Sys2Proof.Machine.execCStsMach n s
  | .cStsMacl n => Sys2Proof.Machine.execCStsMacl n s
  | .cStsPr n => Sys2Proof.Machine.execCStsPr n s
  | .cStsLMach n => Sys2Proof.Machine.execCStsLMach n s
  | .cStsLMacl n => Sys2Proof.Machine.execCStsLMacl n s
  | .cStsLPr n => Sys2Proof.Machine.execCStsLPr n s
  | .cTrapa imm => Sys2Proof.Machine.execCTrapa imm s
  | .cBrk => Sys2Proof.Machine.execCBrk s
  | .cPref n => Sys2Proof.Machine.execCPref n s
  | .cOcbi n => Sys2Proof.Machine.execCOcbi n s
  | .cOcbp n => Sys2Proof.Machine.execCOcbp n s
  | .cOcbwb n => Sys2Proof.Machine.execCOcbwb n s
  | .cFabs n => Sys2Proof.Machine.execCFabs n s
  | .cFneg n => Sys2Proof.Machine.execCFneg n s
  | .cFadd m n => Sys2Proof.Machine.execCFadd m n s
  | .cFsub m n => Sys2Proof.Machine.execCFsub m n s
  | .cFmul m n => Sys2Proof.Machine.execCFmul m n s
  | .cFdiv m n => Sys2Proof.Machine.execCFdiv m n s
  | .cFsqrt n => Sys2Proof.Machine.execCFsqrt n s
  | .cFcmpEq m n => Sys2Proof.Machine.execCFcmpEq m n s
  | .cFcmpGt m n => Sys2Proof.Machine.execCFcmpGt m n s
  | .cFmac m n => Sys2Proof.Machine.execCFmac m n s
  | .cFldi0 n => Sys2Proof.Machine.execCFldi0 n s
  | .cFldi1 n => Sys2Proof.Machine.execCFldi1 n s
  | .cFlds m => Sys2Proof.Machine.execCFlds m s
  | .cFsts n => Sys2Proof.Machine.execCFsts n s
  | .cFloat n => Sys2Proof.Machine.execCFloat n s
  | .cFtrc m => Sys2Proof.Machine.execCFtrc m s
  | .cFcnvsd n => Sys2Proof.Machine.execCFcnvsd n s
  | .cFcnvds m => Sys2Proof.Machine.execCFcnvds m s
  | .cFipr m n => Sys2Proof.Machine.execCFipr m n s
  | .cFtrv n => Sys2Proof.Machine.execCFtrv n s
  | .cFrchg => Sys2Proof.Machine.execCFrchg s
  | .cFschg => Sys2Proof.Machine.execCFschg s
  | .cFmov m n => Sys2Proof.Machine.execCFmov m n s
  | .cFmovLoad m n => Sys2Proof.Machine.execCFmovLoad m n s
  | .cFmovLoadInc m n => Sys2Proof.Machine.execCFmovLoadInc m n s
  | .cFmovLoadIdx m n => Sys2Proof.Machine.execCFmovLoadIdx m n s
  | .cFmovLoadDisp12 m disp n => Sys2Proof.Machine.execCFmovLoadDisp12 m disp n s
  | .cFmovStore m n => Sys2Proof.Machine.execCFmovStore m n s
  | .cFmovStoreDec m n => Sys2Proof.Machine.execCFmovStoreDec m n s
  | .cFmovStoreIdx m n => Sys2Proof.Machine.execCFmovStoreIdx m n s
  | .cFmovStoreDisp12 m disp n => Sys2Proof.Machine.execCFmovStoreDisp12 m disp n s
  | .cLdsFpscr m => Sys2Proof.Machine.execCLdsFpscr m s
  | .cLdsFpul m => Sys2Proof.Machine.execCLdsFpul m s
  | .cLdsLFpscr m => Sys2Proof.Machine.execCLdsLFpscr m s
  | .cLdsLFpul m => Sys2Proof.Machine.execCLdsLFpul m s
  | .cStsFpscr n => Sys2Proof.Machine.execCStsFpscr n s
  | .cStsFpul n => Sys2Proof.Machine.execCStsFpul n s
  | .cStsLFpscr n => Sys2Proof.Machine.execCStsLFpscr n s
  | .cStsLFpul n => Sys2Proof.Machine.execCStsLFpul n s
  | .mAdd m n d => Sys2Proof.Machine.execMAdd m n d s
  | .mAddL m n d => Sys2Proof.Machine.execMAddL m n d s
  | .mAddi m imm d => Sys2Proof.Machine.execMAddi m imm d s
  | .mAddiL m imm d => Sys2Proof.Machine.execMAddiL m imm d s
  | .mAddzL m n d => Sys2Proof.Machine.execMAddzL m n d s
  | .mSub m n d => Sys2Proof.Machine.execMSub m n d s
  | .mSubL m n d => Sys2Proof.Machine.execMSubL m n d s
  | .mAnd m n d => Sys2Proof.Machine.execMAnd m n d s
  | .mAndc m n d => Sys2Proof.Machine.execMAndc m n d s
  | .mAndi m imm d => Sys2Proof.Machine.execMAndi m imm d s
  | .mOr m n d => Sys2Proof.Machine.execMOr m n d s
  | .mOri m imm d => Sys2Proof.Machine.execMOri m imm d s
  | .mXor m n d => Sys2Proof.Machine.execMXor m n d s
  | .mXori m imm d => Sys2Proof.Machine.execMXori m imm d s
  | .mCmpeq m n d => Sys2Proof.Machine.execMCmpeq m n d s
  | .mCmpgt m n d => Sys2Proof.Machine.execMCmpgt m n d s
  | .mCmpgtu m n d => Sys2Proof.Machine.execMCmpgtu m n d s
  | .mCmveq m n d => Sys2Proof.Machine.execMCmveq m n d s
  | .mCmvne m n d => Sys2Proof.Machine.execMCmvne m n d s
  | .mNsb m d => Sys2Proof.Machine.execMNsb m d s
  | .mByterev m d => Sys2Proof.Machine.execMByterev m d s
  | .mMuluL m n d => Sys2Proof.Machine.execMMuluL m n d s
  | .mMulsL m n d => Sys2Proof.Machine.execMMulsL m n d s
  | .mShlld m n d => Sys2Proof.Machine.execMShlld m n d s
  | .mShlldL m n d => Sys2Proof.Machine.execMShlldL m n d s
  | .mShlrd m n d => Sys2Proof.Machine.execMShlrd m n d s
  | .mShlrdL m n d => Sys2Proof.Machine.execMShlrdL m n d s
  | .mShard m n d => Sys2Proof.Machine.execMShard m n d s
  | .mShardL m n d => Sys2Proof.Machine.execMShardL m n d s
  | .mShlli m imm d => Sys2Proof.Machine.execMShlli m imm d s
  | .mShlliL m imm d => Sys2Proof.Machine.execMShlliL m imm d s
  | .mShlri m imm d => Sys2Proof.Machine.execMShlri m imm d s
  | .mShlriL m imm d => Sys2Proof.Machine.execMShlriL m imm d s
  | .mShari m imm d => Sys2Proof.Machine.execMShari m imm d s
  | .mShariL m imm d => Sys2Proof.Machine.execMShariL m imm d s
  | .mMovi imm d => Sys2Proof.Machine.execMMovi imm d s
  | .mShori imm d => Sys2Proof.Machine.execMShori imm d s
  | .mMaddW m n d => Sys2Proof.Machine.execMMaddW m n d s
  | .mMaddL m n d => Sys2Proof.Machine.execMMaddL m n d s
  | .mMaddsUb m n d => Sys2Proof.Machine.execMMaddsUb m n d s
  | .mMaddsW m n d => Sys2Proof.Machine.execMMaddsW m n d s
  | .mMaddsL m n d => Sys2Proof.Machine.execMMaddsL m n d s
  | .mMsubW m n d => Sys2Proof.Machine.execMMsubW m n d s
  | .mMsubL m n d => Sys2Proof.Machine.execMMsubL m n d s
  | .mMsubsUb m n d => Sys2Proof.Machine.execMMsubsUb m n d s
  | .mMsubsW m n d => Sys2Proof.Machine.execMMsubsW m n d s
  | .mMsubsL m n d => Sys2Proof.Machine.execMMsubsL m n d s
  | .mMabsW m d => Sys2Proof.Machine.execMMabsW m d s
  | .mMabsL m d => Sys2Proof.Machine.execMMabsL m d s
  | .mMcmpeqB m n d => Sys2Proof.Machine.execMMcmpeqB m n d s
  | .mMcmpeqW m n d => Sys2Proof.Machine.execMMcmpeqW m n d s
  | .mMcmpeqL m n d => Sys2Proof.Machine.execMMcmpeqL m n d s
  | .mMcmpgtUb m n d => Sys2Proof.Machine.execMMcmpgtUb m n d s
  | .mMcmpgtW m n d => Sys2Proof.Machine.execMMcmpgtW m n d s
  | .mMcmpgtL m n d => Sys2Proof.Machine.execMMcmpgtL m n d s
  | .mMcmv m n d => Sys2Proof.Machine.execMMcmv m n d s
  | .mMcnvsLw m n d => Sys2Proof.Machine.execMMcnvsLw m n d s
  | .mMcnvsWb m n d => Sys2Proof.Machine.execMMcnvsWb m n d s
  | .mMcnvsWub m n d => Sys2Proof.Machine.execMMcnvsWub m n d s
  | .mMextr1 m n d => Sys2Proof.Machine.execMMextr1 m n d s
  | .mMextr2 m n d => Sys2Proof.Machine.execMMextr2 m n d s
  | .mMextr3 m n d => Sys2Proof.Machine.execMMextr3 m n d s
  | .mMextr4 m n d => Sys2Proof.Machine.execMMextr4 m n d s
  | .mMextr5 m n d => Sys2Proof.Machine.execMMextr5 m n d s
  | .mMextr6 m n d => Sys2Proof.Machine.execMMextr6 m n d s
  | .mMextr7 m n d => Sys2Proof.Machine.execMMextr7 m n d s
  | .mMmacfxWl m n d => Sys2Proof.Machine.execMMmacfxWl m n d s
  | .mMmacnfxWl m n d => Sys2Proof.Machine.execMMmacnfxWl m n d s
  | .mMmulW m n d => Sys2Proof.Machine.execMMmulW m n d s
  | .mMmulL m n d => Sys2Proof.Machine.execMMmulL m n d s
  | .mMmulfxW m n d => Sys2Proof.Machine.execMMmulfxW m n d s
  | .mMmulfxL m n d => Sys2Proof.Machine.execMMmulfxL m n d s
  | .mMmulfxrpW m n d => Sys2Proof.Machine.execMMmulfxrpW m n d s
  | .mMmulhiWl m n d => Sys2Proof.Machine.execMMmulhiWl m n d s
  | .mMmulloWl m n d => Sys2Proof.Machine.execMMmulloWl m n d s
  | .mMmulsumWq m n d => Sys2Proof.Machine.execMMmulsumWq m n d s
  | .mMpermW m n d => Sys2Proof.Machine.execMMpermW m n d s
  | .mMsadUbq m n d => Sys2Proof.Machine.execMMsadUbq m n d s
  | .mMshaldsW m n d => Sys2Proof.Machine.execMMshaldsW m n d s
  | .mMshaldsL m n d => Sys2Proof.Machine.execMMshaldsL m n d s
  | .mMshardW m n d => Sys2Proof.Machine.execMMshardW m n d s
  | .mMshardL m n d => Sys2Proof.Machine.execMMshardL m n d s
  | .mMshardsQ m n d => Sys2Proof.Machine.execMMshardsQ m n d s
  | .mMshlldW m n d => Sys2Proof.Machine.execMMshlldW m n d s
  | .mMshlldL m n d => Sys2Proof.Machine.execMMshlldL m n d s
  | .mMshlrdW m n d => Sys2Proof.Machine.execMMshlrdW m n d s
  | .mMshlrdL m n d => Sys2Proof.Machine.execMMshlrdL m n d s
  | .mMshfloB m n d => Sys2Proof.Machine.execMMshfloB m n d s
  | .mMshfloW m n d => Sys2Proof.Machine.execMMshfloW m n d s
  | .mMshfloL m n d => Sys2Proof.Machine.execMMshfloL m n d s
  | .mMshfhiB m n d => Sys2Proof.Machine.execMMshfhiB m n d s
  | .mMshfhiW m n d => Sys2Proof.Machine.execMMshfhiW m n d s
  | .mMshfhiL m n d => Sys2Proof.Machine.execMMshfhiL m n d s
  | .mLdB m imm d => Sys2Proof.Machine.execMLdB m imm d s
  | .mLdW m imm d => Sys2Proof.Machine.execMLdW m imm d s
  | .mLdL m imm d => Sys2Proof.Machine.execMLdL m imm d s
  | .mLdQ m imm d => Sys2Proof.Machine.execMLdQ m imm d s
  | .mLdUb m imm d => Sys2Proof.Machine.execMLdUb m imm d s
  | .mLdUw m imm d => Sys2Proof.Machine.execMLdUw m imm d s
  | .mStB m imm d => Sys2Proof.Machine.execMStB m imm d s
  | .mStW m imm d => Sys2Proof.Machine.execMStW m imm d s
  | .mStL m imm d => Sys2Proof.Machine.execMStL m imm d s
  | .mStQ m imm d => Sys2Proof.Machine.execMStQ m imm d s
  | .mLdxB m n d => Sys2Proof.Machine.execMLdxB m n d s
  | .mLdxW m n d => Sys2Proof.Machine.execMLdxW m n d s
  | .mLdxL m n d => Sys2Proof.Machine.execMLdxL m n d s
  | .mLdxQ m n d => Sys2Proof.Machine.execMLdxQ m n d s
  | .mLdxUb m n d => Sys2Proof.Machine.execMLdxUb m n d s
  | .mLdxUw m n d => Sys2Proof.Machine.execMLdxUw m n d s
  | .mStxB m n d => Sys2Proof.Machine.execMStxB m n d s
  | .mStxW m n d => Sys2Proof.Machine.execMStxW m n d s
  | .mStxL m n d => Sys2Proof.Machine.execMStxL m n d s
  | .mStxQ m n d => Sys2Proof.Machine.execMStxQ m n d s
  | .mLdloL m imm d => Sys2Proof.Machine.execMLdloL m imm d s
  | .mLdloQ m imm d => Sys2Proof.Machine.execMLdloQ m imm d s
  | .mLdhiL m imm d => Sys2Proof.Machine.execMLdhiL m imm d s
  | .mLdhiQ m imm d => Sys2Proof.Machine.execMLdhiQ m imm d s
  | .mStloL m imm d => Sys2Proof.Machine.execMStloL m imm d s
  | .mStloQ m imm d => Sys2Proof.Machine.execMStloQ m imm d s
  | .mSthiL m imm d => Sys2Proof.Machine.execMSthiL m imm d s
  | .mSthiQ m imm d => Sys2Proof.Machine.execMSthiQ m imm d s
  | .mSwapQ m n d => Sys2Proof.Machine.execMSwapQ m n d s
  | .mPrefi m imm => Sys2Proof.Machine.execMPrefi m imm s
  | .mAlloco m imm => Sys2Proof.Machine.execMAlloco m imm s
  | .mIcbi m imm => Sys2Proof.Machine.execMIcbi m imm s
  | .mOcbp m imm => Sys2Proof.Machine.execMOcbp m imm s
  | .mOcbi m imm => Sys2Proof.Machine.execMOcbi m imm s
  | .mOcbwb m imm => Sys2Proof.Machine.execMOcbwb m imm s
  | .mGetcfg m imm d => Sys2Proof.Machine.execMGetcfg m imm d s
  | .mPutcfg m imm d => Sys2Proof.Machine.execMPutcfg m imm d s
  | .mPta imm l a => Sys2Proof.Machine.execMPta imm l a s
  | .mPtb imm l a => Sys2Proof.Machine.execMPtb imm l a s
  | .mPtabs n l a => Sys2Proof.Machine.execMPtabs n l a s
  | .mPtrel n l a => Sys2Proof.Machine.execMPtrel n l a s
  | .mGettr b d => Sys2Proof.Machine.execMGettr b d s
  | .mBlink b d => Sys2Proof.Machine.execMBlink b d s
  | .mBeq m n l a => Sys2Proof.Machine.execMBeq m n l a s
  | .mBge m n l a => Sys2Proof.Machine.execMBge m n l a s
  | .mBne m n l a => Sys2Proof.Machine.execMBne m n l a s
  | .mBgt m n l a => Sys2Proof.Machine.execMBgt m n l a s
  | .mBgeu m n l a => Sys2Proof.Machine.execMBgeu m n l a s
  | .mBgtu m n l a => Sys2Proof.Machine.execMBgtu m n l a s
  | .mBeqi m imm l a => Sys2Proof.Machine.execMBeqi m imm l a s
  | .mBnei m imm l a => Sys2Proof.Machine.execMBnei m imm l a s
  | .mGetcon m d => Sys2Proof.Machine.execMGetcon m d s
  | .mPutcon m d => Sys2Proof.Machine.execMPutcon m d s
  | .mTrapa m => Sys2Proof.Machine.execMTrapa m s
  | .mBrk => Sys2Proof.Machine.execMBrk s
  | .mRte => Sys2Proof.Machine.execMRte s
  | .mSleep => Sys2Proof.Machine.execMSleep s
  | .mSynci => Sys2Proof.Machine.execMSynci s
  | .mSynco => Sys2Proof.Machine.execMSynco s
  | .mNop => Sys2Proof.Machine.execMNop s
  | .mFabsS m n d => Sys2Proof.Machine.execMFabsS m n d s
  | .mFabsD m n d => Sys2Proof.Machine.execMFabsD m n d s
  | .mFnegS m n d => Sys2Proof.Machine.execMFnegS m n d s
  | .mFnegD m n d => Sys2Proof.Machine.execMFnegD m n d s
  | .mFaddS m n d => Sys2Proof.Machine.execMFaddS m n d s
  | .mFaddD m n d => Sys2Proof.Machine.execMFaddD m n d s
  | .mFsubS m n d => Sys2Proof.Machine.execMFsubS m n d s
  | .mFsubD m n d => Sys2Proof.Machine.execMFsubD m n d s
  | .mFdivS m n d => Sys2Proof.Machine.execMFdivS m n d s
  | .mFdivD m n d => Sys2Proof.Machine.execMFdivD m n d s
  | .mFmulS m n d => Sys2Proof.Machine.execMFmulS m n d s
  | .mFmulD m n d => Sys2Proof.Machine.execMFmulD m n d s
  | .mFmacS m n d => Sys2Proof.Machine.execMFmacS m n d s
  | .mFsqrtS m n d => Sys2Proof.Machine.execMFsqrtS m n d s
  | .mFsqrtD m n d => Sys2Proof.Machine.execMFsqrtD m n d s
  | .mFcmpeqS m n d => Sys2Proof.Machine.execMFcmpeqS m n d s
  | .mFcmpeqD m n d => Sys2Proof.Machine.execMFcmpeqD m n d s
  | .mFcmpunS m n d => Sys2Proof.Machine.execMFcmpunS m n d s
  | .mFcmpunD m n d => Sys2Proof.Machine.execMFcmpunD m n d s
  | .mFcmpgtS m n d => Sys2Proof.Machine.execMFcmpgtS m n d s
  | .mFcmpgtD m n d => Sys2Proof.Machine.execMFcmpgtD m n d s
  | .mFcmpgeS m n d => Sys2Proof.Machine.execMFcmpgeS m n d s
  | .mFcmpgeD m n d => Sys2Proof.Machine.execMFcmpgeD m n d s
  | .mFmovS m n d => Sys2Proof.Machine.execMFmovS m n d s
  | .mFmovD m n d => Sys2Proof.Machine.execMFmovD m n d s
  | .mFcnvSd m n d => Sys2Proof.Machine.execMFcnvSd m n d s
  | .mFcnvDs m n d => Sys2Proof.Machine.execMFcnvDs m n d s
  | .mFtrcSl m n d => Sys2Proof.Machine.execMFtrcSl m n d s
  | .mFtrcDq m n d => Sys2Proof.Machine.execMFtrcDq m n d s
  | .mFtrcSq m n d => Sys2Proof.Machine.execMFtrcSq m n d s
  | .mFtrcDl m n d => Sys2Proof.Machine.execMFtrcDl m n d s
  | .mFloatLs m n d => Sys2Proof.Machine.execMFloatLs m n d s
  | .mFloatQd m n d => Sys2Proof.Machine.execMFloatQd m n d s
  | .mFloatLd m n d => Sys2Proof.Machine.execMFloatLd m n d s
  | .mFloatQs m n d => Sys2Proof.Machine.execMFloatQs m n d s
  | .mFmovSl m n d => Sys2Proof.Machine.execMFmovSl m n d s
  | .mFmovDq m n d => Sys2Proof.Machine.execMFmovDq m n d s
  | .mFmovLs m d => Sys2Proof.Machine.execMFmovLs m d s
  | .mFmovQd m d => Sys2Proof.Machine.execMFmovQd m d s
  | .mFgetscr d => Sys2Proof.Machine.execMFgetscr d s
  | .mFputscr m n => Sys2Proof.Machine.execMFputscr m n s
  | .mFiprS m n d => Sys2Proof.Machine.execMFiprS m n d s
  | .mFtrvS m n d => Sys2Proof.Machine.execMFtrvS m n d s
  | .mFldS m imm d => Sys2Proof.Machine.execMFldS m imm d s
  | .mFldP m imm d => Sys2Proof.Machine.execMFldP m imm d s
  | .mFldD m imm d => Sys2Proof.Machine.execMFldD m imm d s
  | .mFstS m imm d => Sys2Proof.Machine.execMFstS m imm d s
  | .mFstP m imm d => Sys2Proof.Machine.execMFstP m imm d s
  | .mFstD m imm d => Sys2Proof.Machine.execMFstD m imm d s
  | .mFldxS m n d => Sys2Proof.Machine.execMFldxS m n d s
  | .mFldxD m n d => Sys2Proof.Machine.execMFldxD m n d s
  | .mFldxP m n d => Sys2Proof.Machine.execMFldxP m n d s
  | .mFstxS m n d => Sys2Proof.Machine.execMFstxS m n d s
  | .mFstxD m n d => Sys2Proof.Machine.execMFstxD m n d s
  | .mFstxP m n d => Sys2Proof.Machine.execMFstxP m n d s

end Sys2Proof.Machine
end

