-- ==== Sys2Proof/WellFormed.lean ====
section
/-! DEFINITION. Well-formed instructions: the fields meet the constraints of spec 48 R751, and a disp12 field has its top
bit clear (41 R304). An ill-formed instruction decodes, and reports InvalidInstruction when it runs. -/

namespace Sys2Proof

open Machine

/-- Whether the fields of an instruction meet every constraint the spec puts on them. -/
def Instr.wf : Instr → Bool
  | .cAdd _ _ => true
  | .cAddImm _ _ => true
  | .cAddc _ _ => true
  | .cAddv _ _ => true
  | .cCmpEqImm _ => true
  | .cCmpEq _ _ => true
  | .cCmpHs _ _ => true
  | .cCmpGe _ _ => true
  | .cCmpHi _ _ => true
  | .cCmpGt _ _ => true
  | .cCmpPz _ => true
  | .cCmpPl _ => true
  | .cCmpStr _ _ => true
  | .cDiv0s _ _ => true
  | .cDiv0u => true
  | .cDiv1 _ _ => true
  | .cDivu _ => true
  | .cDmulsL _ _ => true
  | .cDmuluL _ _ => true
  | .cDt _ => true
  | .cExtsB _ _ => true
  | .cExtsW _ _ => true
  | .cExtuB _ _ => true
  | .cExtuW _ _ => true
  | .cMacL _ _ => true
  | .cMacW _ _ => true
  | .cMulL _ _ => true
  | .cMulr _ => true
  | .cMulsW _ _ => true
  | .cMuluW _ _ => true
  | .cNeg _ _ => true
  | .cNegc _ _ => true
  | .cSub _ _ => true
  | .cSubc _ _ => true
  | .cSubv _ _ => true
  | .cAnd _ _ => true
  | .cAndImm _ => true
  | .cAndB _ => true
  | .cNot _ _ => true
  | .cOr _ _ => true
  | .cOrImm _ => true
  | .cOrB _ => true
  | .cTasB _ => true
  | .cTst _ _ => true
  | .cTstImm _ => true
  | .cTstB _ => true
  | .cXor _ _ => true
  | .cXorImm _ => true
  | .cXorB _ => true
  | .cRotl _ => true
  | .cRotr _ => true
  | .cRotcl _ => true
  | .cRotcr _ => true
  | .cShad _ _ => true
  | .cShal _ => true
  | .cShar _ => true
  | .cShld _ _ => true
  | .cShll _ => true
  | .cShll2 _ => true
  | .cShll8 _ => true
  | .cShll16 _ => true
  | .cShlr _ => true
  | .cShlr2 _ => true
  | .cShlr8 _ => true
  | .cShlr16 _ => true
  | .cMov _ _ => true
  | .cMovImm _ _ => true
  | .cMovi20 _ _ => true
  | .cMovi20s _ _ => true
  | .cMova _ => true
  | .cMovWLoadPc _ _ => true
  | .cMovLLoadPc _ _ => true
  | .cMovBLoad _ _ => true
  | .cMovWLoad _ _ => true
  | .cMovLLoad _ _ => true
  | .cMovBLoadInc _ _ => true
  | .cMovWLoadInc _ _ => true
  | .cMovLLoadInc _ _ => true
  | .cMovBLoadIdx _ _ => true
  | .cMovWLoadIdx _ _ => true
  | .cMovLLoadIdx _ _ => true
  | .cMovBLoadDisp _ _ => true
  | .cMovWLoadDisp _ _ => true
  | .cMovLLoadDisp _ _ _ => true
  | .cMovLLoadDisp12 _ disp _ => !disp.msb
  | .cMovBLoadGbr _ => true
  | .cMovWLoadGbr _ => true
  | .cMovLLoadGbr _ => true
  | .cMovuaL _ => true
  | .cMovuaLInc _ => true
  | .cMovBStore _ _ => true
  | .cMovWStore _ _ => true
  | .cMovLStore _ _ => true
  | .cMovBStoreDec _ _ => true
  | .cMovWStoreDec _ _ => true
  | .cMovLStoreDec _ _ => true
  | .cMovBStoreIdx _ _ => true
  | .cMovWStoreIdx _ _ => true
  | .cMovLStoreIdx _ _ => true
  | .cMovBStoreDisp _ _ => true
  | .cMovWStoreDisp _ _ => true
  | .cMovLStoreDisp _ _ _ => true
  | .cMovLStoreDisp12 _ disp _ => !disp.msb
  | .cMovBStoreGbr _ => true
  | .cMovWStoreGbr _ => true
  | .cMovLStoreGbr _ => true
  | .cMovcaL _ => true
  | .cMovcoL _ => true
  | .cMovliL _ => true
  | .cMovt _ => true
  | .cSwapB _ _ => true
  | .cSwapW _ _ => true
  | .cXtrct _ _ => true
  | .cBf _ => true
  | .cBfS _ => true
  | .cBt _ => true
  | .cBtS _ => true
  | .cBra _ => true
  | .cBraf _ => true
  | .cBsr _ => true
  | .cBsrf _ => true
  | .cJmp _ => true
  | .cJsr _ => true
  | .cRts => true
  | .cClrmac => true
  | .cClrs => true
  | .cClrt => true
  | .cSets => true
  | .cSett => true
  | .cNop => true
  | .cLdcSr _ => true
  | .cLdcGbr _ => true
  | .cLdcVbr _ => true
  | .cLdcLGbr _ => true
  | .cLdcLVbr _ => true
  | .cLdsMach _ => true
  | .cLdsMacl _ => true
  | .cLdsPr _ => true
  | .cLdsLMach _ => true
  | .cLdsLMacl _ => true
  | .cLdsLPr _ => true
  | .cStcGbr _ => true
  | .cStcVbr _ => true
  | .cStcLGbr _ => true
  | .cStcLVbr _ => true
  | .cStsMach _ => true
  | .cStsMacl _ => true
  | .cStsPr _ => true
  | .cStsLMach _ => true
  | .cStsLMacl _ => true
  | .cStsLPr _ => true
  | .cTrapa _ => true
  | .cBrk => true
  | .cPref _ => true
  | .cOcbi _ => true
  | .cOcbp _ => true
  | .cOcbwb _ => true
  | .cFabs _ => true
  | .cFneg _ => true
  | .cFadd _ _ => true
  | .cFsub _ _ => true
  | .cFmul _ _ => true
  | .cFdiv _ _ => true
  | .cFsqrt _ => true
  | .cFcmpEq _ _ => true
  | .cFcmpGt _ _ => true
  | .cFmac _ _ => true
  | .cFldi0 _ => true
  | .cFldi1 _ => true
  | .cFlds _ => true
  | .cFsts _ => true
  | .cFloat _ => true
  | .cFtrc _ => true
  | .cFcnvsd _ => true
  | .cFcnvds _ => true
  | .cFipr _ _ => true
  | .cFtrv _ => true
  | .cFrchg => true
  | .cFschg => true
  | .cFmov _ _ => true
  | .cFmovLoad _ _ => true
  | .cFmovLoadInc _ _ => true
  | .cFmovLoadIdx _ _ => true
  | .cFmovLoadDisp12 _ disp _ => !disp.msb
  | .cFmovStore _ _ => true
  | .cFmovStoreDec _ _ => true
  | .cFmovStoreIdx _ _ => true
  | .cFmovStoreDisp12 _ disp _ => !disp.msb
  | .cLdsFpscr _ => true
  | .cLdsFpul _ => true
  | .cLdsLFpscr _ => true
  | .cLdsLFpul _ => true
  | .cStsFpscr _ => true
  | .cStsFpul _ => true
  | .cStsLFpscr _ => true
  | .cStsLFpul _ => true
  | .mAdd _ _ _ => true
  | .mAddL _ _ _ => true
  | .mAddi _ _ _ => true
  | .mAddiL _ _ _ => true
  | .mAddzL _ _ _ => true
  | .mSub _ _ _ => true
  | .mSubL _ _ _ => true
  | .mAnd _ _ _ => true
  | .mAndc _ _ _ => true
  | .mAndi _ _ _ => true
  | .mOr _ _ _ => true
  | .mOri _ _ _ => true
  | .mXor _ _ _ => true
  | .mXori _ _ _ => true
  | .mCmpeq _ _ _ => true
  | .mCmpgt _ _ _ => true
  | .mCmpgtu _ _ _ => true
  | .mCmveq _ _ _ => true
  | .mCmvne _ _ _ => true
  | .mNsb _ _ => true
  | .mByterev _ _ => true
  | .mMuluL _ _ _ => true
  | .mMulsL _ _ _ => true
  | .mShlld _ _ _ => true
  | .mShlldL _ _ _ => true
  | .mShlrd _ _ _ => true
  | .mShlrdL _ _ _ => true
  | .mShard _ _ _ => true
  | .mShardL _ _ _ => true
  | .mShlli _ _ _ => true
  | .mShlliL _ _ _ => true
  | .mShlri _ _ _ => true
  | .mShlriL _ _ _ => true
  | .mShari _ _ _ => true
  | .mShariL _ _ _ => true
  | .mMovi _ _ => true
  | .mShori _ _ => true
  | .mMaddW _ _ _ => true
  | .mMaddL _ _ _ => true
  | .mMaddsUb _ _ _ => true
  | .mMaddsW _ _ _ => true
  | .mMaddsL _ _ _ => true
  | .mMsubW _ _ _ => true
  | .mMsubL _ _ _ => true
  | .mMsubsUb _ _ _ => true
  | .mMsubsW _ _ _ => true
  | .mMsubsL _ _ _ => true
  | .mMabsW _ _ => true
  | .mMabsL _ _ => true
  | .mMcmpeqB _ _ _ => true
  | .mMcmpeqW _ _ _ => true
  | .mMcmpeqL _ _ _ => true
  | .mMcmpgtUb _ _ _ => true
  | .mMcmpgtW _ _ _ => true
  | .mMcmpgtL _ _ _ => true
  | .mMcmv _ _ _ => true
  | .mMcnvsLw _ _ _ => true
  | .mMcnvsWb _ _ _ => true
  | .mMcnvsWub _ _ _ => true
  | .mMextr1 _ _ _ => true
  | .mMextr2 _ _ _ => true
  | .mMextr3 _ _ _ => true
  | .mMextr4 _ _ _ => true
  | .mMextr5 _ _ _ => true
  | .mMextr6 _ _ _ => true
  | .mMextr7 _ _ _ => true
  | .mMmacfxWl _ _ _ => true
  | .mMmacnfxWl _ _ _ => true
  | .mMmulW _ _ _ => true
  | .mMmulL _ _ _ => true
  | .mMmulfxW _ _ _ => true
  | .mMmulfxL _ _ _ => true
  | .mMmulfxrpW _ _ _ => true
  | .mMmulhiWl _ _ _ => true
  | .mMmulloWl _ _ _ => true
  | .mMmulsumWq _ _ _ => true
  | .mMpermW _ _ _ => true
  | .mMsadUbq _ _ _ => true
  | .mMshaldsW _ _ _ => true
  | .mMshaldsL _ _ _ => true
  | .mMshardW _ _ _ => true
  | .mMshardL _ _ _ => true
  | .mMshardsQ _ _ _ => true
  | .mMshlldW _ _ _ => true
  | .mMshlldL _ _ _ => true
  | .mMshlrdW _ _ _ => true
  | .mMshlrdL _ _ _ => true
  | .mMshfloB _ _ _ => true
  | .mMshfloW _ _ _ => true
  | .mMshfloL _ _ _ => true
  | .mMshfhiB _ _ _ => true
  | .mMshfhiW _ _ _ => true
  | .mMshfhiL _ _ _ => true
  | .mLdB _ _ _ => true
  | .mLdW _ _ _ => true
  | .mLdL _ _ _ => true
  | .mLdQ _ _ _ => true
  | .mLdUb _ _ _ => true
  | .mLdUw _ _ _ => true
  | .mStB _ _ _ => true
  | .mStW _ _ _ => true
  | .mStL _ _ _ => true
  | .mStQ _ _ _ => true
  | .mLdxB _ _ _ => true
  | .mLdxW _ _ _ => true
  | .mLdxL _ _ _ => true
  | .mLdxQ _ _ _ => true
  | .mLdxUb _ _ _ => true
  | .mLdxUw _ _ _ => true
  | .mStxB _ _ _ => true
  | .mStxW _ _ _ => true
  | .mStxL _ _ _ => true
  | .mStxQ _ _ _ => true
  | .mLdloL _ _ _ => true
  | .mLdloQ _ _ _ => true
  | .mLdhiL _ _ _ => true
  | .mLdhiQ _ _ _ => true
  | .mStloL _ _ _ => true
  | .mStloQ _ _ _ => true
  | .mSthiL _ _ _ => true
  | .mSthiQ _ _ _ => true
  | .mSwapQ _ _ _ => true
  | .mPrefi _ _ => true
  | .mAlloco _ _ => true
  | .mIcbi _ _ => true
  | .mOcbp _ _ => true
  | .mOcbi _ _ => true
  | .mOcbwb _ _ => true
  | .mGetcfg _ _ _ => true
  | .mPutcfg _ _ _ => true
  | .mPta _ _ _ => true
  | .mPtb _ _ _ => true
  | .mPtabs _ _ _ => true
  | .mPtrel _ _ _ => true
  | .mGettr _ _ => true
  | .mBlink _ _ => true
  | .mBeq _ _ _ _ => true
  | .mBge _ _ _ _ => true
  | .mBne _ _ _ _ => true
  | .mBgt _ _ _ _ => true
  | .mBgeu _ _ _ _ => true
  | .mBgtu _ _ _ _ => true
  | .mBeqi _ _ _ _ => true
  | .mBnei _ _ _ _ => true
  | .mGetcon _ _ => true
  | .mPutcon _ _ => true
  | .mTrapa _ => true
  | .mBrk => true
  | .mRte => true
  | .mSleep => true
  | .mSynci => true
  | .mSynco => true
  | .mNop => true
  | .mFabsS m n _ => m == n
  | .mFabsD m n d => m == n && evenF m && evenF d
  | .mFnegS m n _ => m == n
  | .mFnegD m n d => m == n && evenF m && evenF d
  | .mFaddS _ _ _ => true
  | .mFaddD m n d => evenF m && evenF n && evenF d
  | .mFsubS _ _ _ => true
  | .mFsubD m n d => evenF m && evenF n && evenF d
  | .mFdivS _ _ _ => true
  | .mFdivD m n d => evenF m && evenF n && evenF d
  | .mFmulS _ _ _ => true
  | .mFmulD m n d => evenF m && evenF n && evenF d
  | .mFmacS _ _ _ => true
  | .mFsqrtS m n _ => m == n
  | .mFsqrtD m n d => m == n && evenF m && evenF d
  | .mFcmpeqS _ _ _ => true
  | .mFcmpeqD m n _ => evenF m && evenF n
  | .mFcmpunS _ _ _ => true
  | .mFcmpunD m n _ => evenF m && evenF n
  | .mFcmpgtS _ _ _ => true
  | .mFcmpgtD m n _ => evenF m && evenF n
  | .mFcmpgeS _ _ _ => true
  | .mFcmpgeD m n _ => evenF m && evenF n
  | .mFmovS m n _ => m == n
  | .mFmovD m n d => m == n && evenF m && evenF d
  | .mFcnvSd m n d => m == n && evenF d
  | .mFcnvDs m n _ => m == n && evenF m
  | .mFtrcSl m n _ => m == n
  | .mFtrcDq m n d => m == n && evenF m && evenF d
  | .mFtrcSq m n d => m == n && evenF d
  | .mFtrcDl m n _ => m == n && evenF m
  | .mFloatLs m n _ => m == n
  | .mFloatQd m n d => m == n && evenF m && evenF d
  | .mFloatLd m n d => m == n && evenF d
  | .mFloatQs m n _ => m == n && evenF m
  | .mFmovSl m n _ => m == n
  | .mFmovDq m n _ => m == n && evenF m
  | .mFmovLs _ _ => true
  | .mFmovQd _ d => evenF d
  | .mFgetscr _ => true
  | .mFputscr m n => m == n
  | .mFiprS m n _ => mult4 m && mult4 n
  | .mFtrvS m n d => mult16 m && mult4 n && mult4 d
  | .mFldS _ _ _ => true
  | .mFldP _ _ d => evenF d
  | .mFldD _ _ d => evenF d
  | .mFstS _ _ _ => true
  | .mFstP _ _ d => evenF d
  | .mFstD _ _ d => evenF d
  | .mFldxS _ _ _ => true
  | .mFldxD _ _ d => evenF d
  | .mFldxP _ _ d => evenF d
  | .mFstxS _ _ _ => true
  | .mFstxD _ _ d => evenF d
  | .mFstxP _ _ d => evenF d

end Sys2Proof
end

