-- ==== Sys2Proof/Decode.lean ====
section
/-! DEFINITION. The decoder and the encoder of both encodings (spec 30), written from the patterns of
spec/opcode_table.json. Decoding is total: it gives the instruction, or says by name why there is none. -/

namespace Sys2Proof

-- Lean's compiled code has no tag for a constructor past the 244th; the kernel evaluates these definitions.
noncomputable section

/-! ### Fields of a compact halfword (30 R114): the four nibbles, the 8-bit and the 12-bit field -/

/-- Bits 15:12. -/
def topN (h : Half) : BitVec 4 := h.extractLsb' 12 4

/-- Bits 11:8. -/
def nN (h : Half) : BitVec 4 := h.extractLsb' 8 4

/-- Bits 7:4. -/
def mN (h : Half) : BitVec 4 := h.extractLsb' 4 4

/-- Bits 3:0. -/
def zN (h : Half) : BitVec 4 := h.extractLsb' 0 4

/-- Bits 7:0. -/
def imm8F (h : Half) : BitVec 8 := h.extractLsb' 0 8

/-- Bits 11:0. -/
def disp12F (h : Half) : BitVec 12 := h.extractLsb' 0 12

/-! ### Compact instructions of 2 bytes, one function per top nibble (30 R121) -/

/-- Top nibble 0x0. -/
def decodeTop0 (n : BitVec 4) (m : BitVec 4) (z : BitVec 4) : Option Instr :=
  match z with
  | 0x2#4 => match m with
    | 0x1#4 => some (.cStcGbr n)
    | 0x2#4 => some (.cStcVbr n)
    | _ => none
  | 0x3#4 => match m with
    | 0x0#4 => some (.cBsrf n)
    | 0x2#4 => some (.cBraf n)
    | 0x6#4 => some (.cMovliL n)
    | 0x7#4 => some (.cMovcoL n)
    | 0x8#4 => some (.cPref n)
    | 0x9#4 => some (.cOcbi n)
    | 0xA#4 => some (.cOcbp n)
    | 0xB#4 => some (.cOcbwb n)
    | 0xC#4 => some (.cMovcaL n)
    | _ => none
  | 0x4#4 => some (.cMovBStoreIdx m n)
  | 0x5#4 => some (.cMovWStoreIdx m n)
  | 0x6#4 => some (.cMovLStoreIdx m n)
  | 0x7#4 => some (.cMulL m n)
  | 0x8#4 => match m with
    | 0x0#4 => if n = 0x0#4 then some (.cClrt) else none
    | 0x1#4 => if n = 0x0#4 then some (.cSett) else none
    | 0x2#4 => if n = 0x0#4 then some (.cClrmac) else none
    | 0x4#4 => if n = 0x0#4 then some (.cClrs) else none
    | 0x5#4 => if n = 0x0#4 then some (.cSets) else none
    | _ => none
  | 0x9#4 => match m with
    | 0x0#4 => if n = 0x0#4 then some (.cNop) else none
    | 0x1#4 => if n = 0x0#4 then some (.cDiv0u) else none
    | 0x2#4 => some (.cMovt n)
    | _ => none
  | 0xA#4 => match m with
    | 0x0#4 => some (.cStsMach n)
    | 0x1#4 => some (.cStsMacl n)
    | 0x2#4 => some (.cStsPr n)
    | 0x5#4 => some (.cStsFpul n)
    | 0x6#4 => some (.cStsFpscr n)
    | _ => none
  | 0xB#4 => match m with
    | 0x0#4 => if n = 0x0#4 then some (.cRts) else none
    | 0x3#4 => if n = 0x0#4 then some (.cBrk) else none
    | _ => none
  | 0xC#4 => some (.cMovBLoadIdx m n)
  | 0xD#4 => some (.cMovWLoadIdx m n)
  | 0xE#4 => some (.cMovLLoadIdx m n)
  | 0xF#4 => some (.cMacL m n)
  | _ => none

/-- Top nibble 0x1. -/
def decodeTop1 (n : BitVec 4) (m : BitVec 4) (z : BitVec 4) : Option Instr :=
  some (.cMovLStoreDisp m z n)

/-- Top nibble 0x2. -/
def decodeTop2 (n : BitVec 4) (m : BitVec 4) (z : BitVec 4) : Option Instr :=
  match z with
  | 0x0#4 => some (.cMovBStore m n)
  | 0x1#4 => some (.cMovWStore m n)
  | 0x2#4 => some (.cMovLStore m n)
  | 0x4#4 => some (.cMovBStoreDec m n)
  | 0x5#4 => some (.cMovWStoreDec m n)
  | 0x6#4 => some (.cMovLStoreDec m n)
  | 0x7#4 => some (.cDiv0s m n)
  | 0x8#4 => some (.cTst m n)
  | 0x9#4 => some (.cAnd m n)
  | 0xA#4 => some (.cXor m n)
  | 0xB#4 => some (.cOr m n)
  | 0xC#4 => some (.cCmpStr m n)
  | 0xD#4 => some (.cXtrct m n)
  | 0xE#4 => some (.cMuluW m n)
  | 0xF#4 => some (.cMulsW m n)
  | _ => none

/-- Top nibble 0x3. -/
def decodeTop3 (n : BitVec 4) (m : BitVec 4) (z : BitVec 4) : Option Instr :=
  match z with
  | 0x0#4 => some (.cCmpEq m n)
  | 0x2#4 => some (.cCmpHs m n)
  | 0x3#4 => some (.cCmpGe m n)
  | 0x4#4 => some (.cDiv1 m n)
  | 0x5#4 => some (.cDmuluL m n)
  | 0x6#4 => some (.cCmpHi m n)
  | 0x7#4 => some (.cCmpGt m n)
  | 0x8#4 => some (.cSub m n)
  | 0xA#4 => some (.cSubc m n)
  | 0xB#4 => some (.cSubv m n)
  | 0xC#4 => some (.cAdd m n)
  | 0xD#4 => some (.cDmulsL m n)
  | 0xE#4 => some (.cAddc m n)
  | 0xF#4 => some (.cAddv m n)
  | _ => none

/-- Top nibble 0x4. -/
def decodeTop4 (n : BitVec 4) (m : BitVec 4) (z : BitVec 4) : Option Instr :=
  match z with
  | 0x0#4 => match m with
    | 0x0#4 => some (.cShll n)
    | 0x1#4 => some (.cDt n)
    | 0x2#4 => some (.cShal n)
    | 0x8#4 => some (.cMulr n)
    | _ => none
  | 0x1#4 => match m with
    | 0x0#4 => some (.cShlr n)
    | 0x1#4 => some (.cCmpPz n)
    | 0x2#4 => some (.cShar n)
    | _ => none
  | 0x2#4 => match m with
    | 0x0#4 => some (.cStsLMach n)
    | 0x1#4 => some (.cStsLMacl n)
    | 0x2#4 => some (.cStsLPr n)
    | 0x5#4 => some (.cStsLFpul n)
    | 0x6#4 => some (.cStsLFpscr n)
    | _ => none
  | 0x3#4 => match m with
    | 0x1#4 => some (.cStcLGbr n)
    | 0x2#4 => some (.cStcLVbr n)
    | _ => none
  | 0x4#4 => match m with
    | 0x0#4 => some (.cRotl n)
    | 0x2#4 => some (.cRotcl n)
    | 0x9#4 => some (.cDivu n)
    | _ => none
  | 0x5#4 => match m with
    | 0x0#4 => some (.cRotr n)
    | 0x1#4 => some (.cCmpPl n)
    | 0x2#4 => some (.cRotcr n)
    | _ => none
  | 0x6#4 => match m with
    | 0x0#4 => some (.cLdsLMach n)
    | 0x1#4 => some (.cLdsLMacl n)
    | 0x2#4 => some (.cLdsLPr n)
    | 0x5#4 => some (.cLdsLFpul n)
    | 0x6#4 => some (.cLdsLFpscr n)
    | _ => none
  | 0x7#4 => match m with
    | 0x1#4 => some (.cLdcLGbr n)
    | 0x2#4 => some (.cLdcLVbr n)
    | _ => none
  | 0x8#4 => match m with
    | 0x0#4 => some (.cShll2 n)
    | 0x1#4 => some (.cShll8 n)
    | 0x2#4 => some (.cShll16 n)
    | _ => none
  | 0x9#4 => match m with
    | 0x0#4 => some (.cShlr2 n)
    | 0x1#4 => some (.cShlr8 n)
    | 0x2#4 => some (.cShlr16 n)
    | 0xA#4 => some (.cMovuaL n)
    | 0xE#4 => some (.cMovuaLInc n)
    | _ => none
  | 0xA#4 => match m with
    | 0x0#4 => some (.cLdsMach n)
    | 0x1#4 => some (.cLdsMacl n)
    | 0x2#4 => some (.cLdsPr n)
    | 0x5#4 => some (.cLdsFpul n)
    | 0x6#4 => some (.cLdsFpscr n)
    | _ => none
  | 0xB#4 => match m with
    | 0x0#4 => some (.cJsr n)
    | 0x1#4 => some (.cTasB n)
    | 0x2#4 => some (.cJmp n)
    | _ => none
  | 0xC#4 => some (.cShad m n)
  | 0xD#4 => some (.cShld m n)
  | 0xE#4 => match m with
    | 0x0#4 => some (.cLdcSr n)
    | 0x1#4 => some (.cLdcGbr n)
    | 0x2#4 => some (.cLdcVbr n)
    | _ => none
  | 0xF#4 => some (.cMacW m n)
  | _ => none

/-- Top nibble 0x5. -/
def decodeTop5 (n : BitVec 4) (m : BitVec 4) (z : BitVec 4) : Option Instr :=
  some (.cMovLLoadDisp m z n)

/-- Top nibble 0x6. -/
def decodeTop6 (n : BitVec 4) (m : BitVec 4) (z : BitVec 4) : Option Instr :=
  match z with
  | 0x0#4 => some (.cMovBLoad m n)
  | 0x1#4 => some (.cMovWLoad m n)
  | 0x2#4 => some (.cMovLLoad m n)
  | 0x3#4 => some (.cMov m n)
  | 0x4#4 => some (.cMovBLoadInc m n)
  | 0x5#4 => some (.cMovWLoadInc m n)
  | 0x6#4 => some (.cMovLLoadInc m n)
  | 0x7#4 => some (.cNot m n)
  | 0x8#4 => some (.cSwapB m n)
  | 0x9#4 => some (.cSwapW m n)
  | 0xA#4 => some (.cNegc m n)
  | 0xB#4 => some (.cNeg m n)
  | 0xC#4 => some (.cExtuB m n)
  | 0xD#4 => some (.cExtuW m n)
  | 0xE#4 => some (.cExtsB m n)
  | 0xF#4 => some (.cExtsW m n)
  | _ => none

/-- Top nibble 0x7. -/
def decodeTop7 (n : BitVec 4) (i8 : BitVec 8) : Option Instr :=
  some (.cAddImm i8 n)

/-- Top nibble 0x8. -/
def decodeTop8 (n : BitVec 4) (m : BitVec 4) (z : BitVec 4) (i8 : BitVec 8) : Option Instr :=
  match n with
  | 0x0#4 => some (.cMovBStoreDisp z m)
  | 0x1#4 => some (.cMovWStoreDisp z m)
  | 0x4#4 => some (.cMovBLoadDisp m z)
  | 0x5#4 => some (.cMovWLoadDisp m z)
  | 0x8#4 => some (.cCmpEqImm i8)
  | 0x9#4 => some (.cBt i8)
  | 0xB#4 => some (.cBf i8)
  | 0xD#4 => some (.cBtS i8)
  | 0xF#4 => some (.cBfS i8)
  | _ => none

/-- Top nibble 0x9. -/
def decodeTop9 (n : BitVec 4) (i8 : BitVec 8) : Option Instr :=
  some (.cMovWLoadPc i8 n)

/-- Top nibble 0xA. -/
def decodeTopA (d12 : BitVec 12) : Option Instr :=
  some (.cBra d12)

/-- Top nibble 0xB. -/
def decodeTopB (d12 : BitVec 12) : Option Instr :=
  some (.cBsr d12)

/-- Top nibble 0xC. -/
def decodeTopC (n : BitVec 4) (i8 : BitVec 8) : Option Instr :=
  match n with
  | 0x0#4 => some (.cMovBStoreGbr i8)
  | 0x1#4 => some (.cMovWStoreGbr i8)
  | 0x2#4 => some (.cMovLStoreGbr i8)
  | 0x3#4 => some (.cTrapa i8)
  | 0x4#4 => some (.cMovBLoadGbr i8)
  | 0x5#4 => some (.cMovWLoadGbr i8)
  | 0x6#4 => some (.cMovLLoadGbr i8)
  | 0x7#4 => some (.cMova i8)
  | 0x8#4 => some (.cTstImm i8)
  | 0x9#4 => some (.cAndImm i8)
  | 0xA#4 => some (.cXorImm i8)
  | 0xB#4 => some (.cOrImm i8)
  | 0xC#4 => some (.cTstB i8)
  | 0xD#4 => some (.cAndB i8)
  | 0xE#4 => some (.cXorB i8)
  | 0xF#4 => some (.cOrB i8)
  | _ => none

/-- Top nibble 0xD. -/
def decodeTopD (n : BitVec 4) (i8 : BitVec 8) : Option Instr :=
  some (.cMovLLoadPc i8 n)

/-- Top nibble 0xE. -/
def decodeTopE (n : BitVec 4) (i8 : BitVec 8) : Option Instr :=
  some (.cMovImm i8 n)

/-- Top nibble 0xF. -/
def decodeTopF (n : BitVec 4) (m : BitVec 4) (z : BitVec 4) : Option Instr :=
  match z with
  | 0x0#4 => some (.cFadd m n)
  | 0x1#4 => some (.cFsub m n)
  | 0x2#4 => some (.cFmul m n)
  | 0x3#4 => some (.cFdiv m n)
  | 0x4#4 => some (.cFcmpEq m n)
  | 0x5#4 => some (.cFcmpGt m n)
  | 0x6#4 => some (.cFmovLoadIdx m n)
  | 0x7#4 => some (.cFmovStoreIdx m n)
  | 0x8#4 => some (.cFmovLoad m n)
  | 0x9#4 => some (.cFmovLoadInc m n)
  | 0xA#4 => some (.cFmovStore m n)
  | 0xB#4 => some (.cFmovStoreDec m n)
  | 0xC#4 => some (.cFmov m n)
  | 0xD#4 => match m with
    | 0x0#4 => some (.cFsts n)
    | 0x1#4 => some (.cFlds n)
    | 0x2#4 => some (.cFloat n)
    | 0x3#4 => some (.cFtrc n)
    | 0x4#4 => some (.cFneg n)
    | 0x5#4 => some (.cFabs n)
    | 0x6#4 => some (.cFsqrt n)
    | 0x8#4 => some (.cFldi0 n)
    | 0x9#4 => some (.cFldi1 n)
    | 0xA#4 => if n.extractLsb' 0 1 = 0x0#1 then some (.cFcnvsd (n.extractLsb' 1 3)) else none
    | 0xB#4 => if n.extractLsb' 0 1 = 0x0#1 then some (.cFcnvds (n.extractLsb' 1 3)) else none
    | 0xE#4 => some (.cFipr (n.extractLsb' 0 2) (n.extractLsb' 2 2))
    | 0xF#4 => if n.extractLsb' 0 2 = 0x1#2 then some (.cFtrv (n.extractLsb' 2 2)) else if n = 0xB#4 then some (.cFrchg) else if n = 0x3#4 then some (.cFschg) else none
    | _ => none
  | 0xE#4 => some (.cFmac m n)
  | _ => none

/-- The row that a 2-byte compact word matches, if any (30 R126). -/
def decodeCompact16 (h : Half) : Option Instr :=
  match topN h with
  | 0x0#4 => decodeTop0 (nN h) (mN h) (zN h)
  | 0x1#4 => decodeTop1 (nN h) (mN h) (zN h)
  | 0x2#4 => decodeTop2 (nN h) (mN h) (zN h)
  | 0x3#4 => decodeTop3 (nN h) (mN h) (zN h)
  | 0x4#4 => decodeTop4 (nN h) (mN h) (zN h)
  | 0x5#4 => decodeTop5 (nN h) (mN h) (zN h)
  | 0x6#4 => decodeTop6 (nN h) (mN h) (zN h)
  | 0x7#4 => decodeTop7 (nN h) (imm8F h)
  | 0x8#4 => decodeTop8 (nN h) (mN h) (zN h) (imm8F h)
  | 0x9#4 => decodeTop9 (nN h) (imm8F h)
  | 0xA#4 => decodeTopA (disp12F h)
  | 0xB#4 => decodeTopB (disp12F h)
  | 0xC#4 => decodeTopC (nN h) (imm8F h)
  | 0xD#4 => decodeTopD (nN h) (imm8F h)
  | 0xE#4 => decodeTopE (nN h) (imm8F h)
  | 0xF#4 => decodeTopF (nN h) (mN h) (zN h)
  | _ => none

/-! ### Compact instructions of 4 bytes (30 R113): the first halfword is bits 31:16 -/

/-- The row that a 4-byte compact word matches, if any. -/
def decodeCompact32 (h h2 : Half) : Option Instr :=
  match topN h with
  | 0x0#4 =>
    match zN h with
    | 0x0#4 => some (.cMovi20 (mN h ++ h2) (nN h))
    | 0x1#4 => some (.cMovi20s (mN h ++ h2) (nN h))
    | _ => none
  | 0x3#4 =>
    match zN h with
    | 0x1#4 =>
      match topN h2 with
      | 0x2#4 => some (.cMovLStoreDisp12 (mN h) (disp12F h2) (nN h))
      | 0x3#4 =>
        if (mN h).extractLsb' 0 1 = 0x0#1 then
          some (.cFmovStoreDisp12 ((mN h).extractLsb' 1 3) (disp12F h2) (nN h))
        else none
      | 0x6#4 => some (.cMovLLoadDisp12 (mN h) (disp12F h2) (nN h))
      | 0x7#4 =>
        if (nN h).extractLsb' 0 1 = 0x0#1 then
          some (.cFmovLoadDisp12 (mN h) (disp12F h2) ((nN h).extractLsb' 1 3))
        else none
      | _ => none
    | _ => none
  | _ => none

/-! ### Fields of a media word (30 R118) -/

/-- The major opcode, bits 31:26. -/
def opF (w : Word) : BitVec 6 := w.extractLsb' 26 6

/-- Bits 25:20. -/
def mF (w : Word) : BitVec 6 := w.extractLsb' 20 6

/-- The ext field, bits 19:16. -/
def extF (w : Word) : BitVec 4 := w.extractLsb' 16 4

/-- Bits 15:10. -/
def nF (w : Word) : BitVec 6 := w.extractLsb' 10 6

/-- Bits 9:4. -/
def dF (w : Word) : BitVec 6 := w.extractLsb' 4 6

/-- The reserved bits 3:0. -/
def resF (w : Word) : BitVec 4 := w.extractLsb' 0 4

/-- Bits 19:10. -/
def imm10F (w : Word) : BitVec 10 := w.extractLsb' 10 10

/-- Bits 25:10. -/
def imm16F (w : Word) : BitVec 16 := w.extractLsb' 10 16

/-- The likely bit of a branch form, bit 9: the top of its `d` field. -/
def likelyF (d : BitVec 6) : BitVec 1 := d.extractLsb' 5 1

/-- Bits 8:7 of a branch form, which must be 0. -/
def branchRes (d : BitVec 6) : BitVec 2 := d.extractLsb' 3 2

/-- The target register of a branch form, bits 6:4. -/
def targetF (d : BitVec 6) : BitVec 3 := d.extractLsb' 0 3

/-! ### Media instructions, one function per major opcode with an ext field (30 R122) -/

/-- Major opcode 0. -/
def decodeMajor0 (e : BitVec 4) (m : BitVec 6) (n : BitVec 6) (d : BitVec 6) : Option Instr :=
  match e with
  | 0x1#4 => some (.mCmpeq m n d)
  | 0x3#4 => some (.mCmpgt m n d)
  | 0x7#4 => some (.mCmpgtu m n d)
  | 0x8#4 => some (.mAddL m n d)
  | 0x9#4 => some (.mAdd m n d)
  | 0xA#4 => some (.mSubL m n d)
  | 0xB#4 => some (.mSub m n d)
  | 0xC#4 => some (.mAddzL m n d)
  | 0xD#4 => if n = 0x3F#6 then some (.mNsb m d) else none
  | 0xE#4 => some (.mMuluL m n d)
  | 0xF#4 => if n = 0x3F#6 then some (.mByterev m d) else none
  | _ => none

/-- Major opcode 1. -/
def decodeMajor1 (e : BitVec 4) (m : BitVec 6) (n : BitVec 6) (d : BitVec 6) : Option Instr :=
  match e with
  | 0x0#4 => some (.mShlldL m n d)
  | 0x1#4 => some (.mShlld m n d)
  | 0x2#4 => some (.mShlrdL m n d)
  | 0x3#4 => some (.mShlrd m n d)
  | 0x6#4 => some (.mShardL m n d)
  | 0x7#4 => some (.mShard m n d)
  | 0x9#4 => some (.mOr m n d)
  | 0xB#4 => some (.mAnd m n d)
  | 0xD#4 => some (.mXor m n d)
  | 0xE#4 => some (.mMulsL m n d)
  | 0xF#4 => some (.mAndc m n d)
  | _ => none

/-- Major opcode 2. -/
def decodeMajor2 (e : BitVec 4) (m : BitVec 6) (n : BitVec 6) (d : BitVec 6) : Option Instr :=
  match e with
  | 0x1#4 => some (.mMaddW m n d)
  | 0x2#4 => some (.mMaddL m n d)
  | 0x4#4 => some (.mMaddsUb m n d)
  | 0x5#4 => some (.mMaddsW m n d)
  | 0x6#4 => some (.mMaddsL m n d)
  | 0x9#4 => some (.mMsubW m n d)
  | 0xA#4 => some (.mMsubL m n d)
  | 0xC#4 => some (.mMsubsUb m n d)
  | 0xD#4 => some (.mMsubsW m n d)
  | 0xE#4 => some (.mMsubsL m n d)
  | _ => none

/-- Major opcode 3. -/
def decodeMajor3 (e : BitVec 4) (m : BitVec 6) (n : BitVec 6) (d : BitVec 6) : Option Instr :=
  match e with
  | 0x1#4 => some (.mMshlldW m n d)
  | 0x2#4 => some (.mMshlldL m n d)
  | 0x5#4 => some (.mMshaldsW m n d)
  | 0x6#4 => some (.mMshaldsL m n d)
  | 0x9#4 => some (.mMshardW m n d)
  | 0xA#4 => some (.mMshardL m n d)
  | 0xB#4 => some (.mMshardsQ m n d)
  | 0xD#4 => some (.mMshlrdW m n d)
  | 0xE#4 => some (.mMshlrdL m n d)
  | _ => none

/-- Major opcode 5. -/
def decodeMajor5 (e : BitVec 4) (m : BitVec 6) (n : BitVec 6) (d : BitVec 6) : Option Instr :=
  match e with
  | 0x6#4 => some (.mFiprS m n d)
  | 0xE#4 => some (.mFtrvS m n d)
  | _ => none

/-- Major opcode 6. -/
def decodeMajor6 (e : BitVec 4) (m : BitVec 6) (n : BitVec 6) (d : BitVec 6) : Option Instr :=
  match e with
  | 0x0#4 => some (.mFabsS m n d)
  | 0x1#4 => some (.mFabsD m n d)
  | 0x2#4 => some (.mFnegS m n d)
  | 0x3#4 => some (.mFnegD m n d)
  | _ => none

/-- Major opcode 7. -/
def decodeMajor7 (e : BitVec 4) (m : BitVec 6) (n : BitVec 6) (d : BitVec 6) : Option Instr :=
  match e with
  | 0x0#4 => if n = 0x3F#6 then some (.mFmovLs m d) else none
  | 0x1#4 => if n = 0x3F#6 then some (.mFmovQd m d) else none
  | 0x2#4 => if m = 0x3F#6 ∧ n = 0x3F#6 then some (.mFgetscr d) else none
  | _ => none

/-- Major opcode 8. -/
def decodeMajor8 (e : BitVec 4) (m : BitVec 6) (n : BitVec 6) (d : BitVec 6) : Option Instr :=
  match e with
  | 0x1#4 => some (.mCmveq m n d)
  | 0x5#4 => some (.mCmvne m n d)
  | _ => none

/-- Major opcode 9. -/
def decodeMajor9 (e : BitVec 4) (m : BitVec 6) (n : BitVec 6) (d : BitVec 6) : Option Instr :=
  match e with
  | 0x3#4 => some (.mSwapQ m n d)
  | 0xF#4 => if n = 0x3F#6 then some (.mGetcon m d) else none
  | _ => none

/-- Major opcode 10. -/
def decodeMajor10 (e : BitVec 4) (m : BitVec 6) (n : BitVec 6) (d : BitVec 6) : Option Instr :=
  match e with
  | 0x0#4 => some (.mMcmpeqB m n d)
  | 0x1#4 => some (.mMcmpeqW m n d)
  | 0x2#4 => some (.mMcmpeqL m n d)
  | 0x4#4 => some (.mMcmpgtUb m n d)
  | 0x5#4 => some (.mMcmpgtW m n d)
  | 0x6#4 => some (.mMcmpgtL m n d)
  | 0x7#4 => some (.mMextr1 m n d)
  | 0x9#4 => if n = 0x3F#6 then some (.mMabsW m d) else none
  | 0xA#4 => if n = 0x3F#6 then some (.mMabsL m d) else none
  | 0xB#4 => some (.mMextr2 m n d)
  | 0xD#4 => some (.mMpermW m n d)
  | 0xF#4 => some (.mMextr3 m n d)
  | _ => none

/-- Major opcode 11. -/
def decodeMajor11 (e : BitVec 4) (m : BitVec 6) (n : BitVec 6) (d : BitVec 6) : Option Instr :=
  match e with
  | 0x0#4 => some (.mMshfloB m n d)
  | 0x1#4 => some (.mMshfloW m n d)
  | 0x2#4 => some (.mMshfloL m n d)
  | 0x3#4 => some (.mMextr4 m n d)
  | 0x4#4 => some (.mMshfhiB m n d)
  | 0x5#4 => some (.mMshfhiW m n d)
  | 0x6#4 => some (.mMshfhiL m n d)
  | 0x7#4 => some (.mMextr5 m n d)
  | 0x8#4 => some (.mMcnvsWb m n d)
  | 0xB#4 => some (.mMextr6 m n d)
  | 0xC#4 => some (.mMcnvsWub m n d)
  | 0xD#4 => some (.mMcnvsLw m n d)
  | 0xF#4 => some (.mMextr7 m n d)
  | _ => none

/-- Major opcode 12. -/
def decodeMajor12 (e : BitVec 4) (m : BitVec 6) (n : BitVec 6) (d : BitVec 6) : Option Instr :=
  match e with
  | 0x0#4 => some (.mFmovSl m n d)
  | 0x1#4 => some (.mFmovDq m n d)
  | 0x2#4 => if d = 0x3F#6 then some (.mFputscr m n) else none
  | 0x8#4 => some (.mFcmpeqS m n d)
  | 0x9#4 => some (.mFcmpeqD m n d)
  | 0xA#4 => some (.mFcmpunS m n d)
  | 0xB#4 => some (.mFcmpunD m n d)
  | 0xC#4 => some (.mFcmpgtS m n d)
  | 0xD#4 => some (.mFcmpgtD m n d)
  | 0xE#4 => some (.mFcmpgeS m n d)
  | 0xF#4 => some (.mFcmpgeD m n d)
  | _ => none

/-- Major opcode 13. -/
def decodeMajor13 (e : BitVec 4) (m : BitVec 6) (n : BitVec 6) (d : BitVec 6) : Option Instr :=
  match e with
  | 0x0#4 => some (.mFaddS m n d)
  | 0x1#4 => some (.mFaddD m n d)
  | 0x2#4 => some (.mFsubS m n d)
  | 0x3#4 => some (.mFsubD m n d)
  | 0x4#4 => some (.mFdivS m n d)
  | 0x5#4 => some (.mFdivD m n d)
  | 0x6#4 => some (.mFmulS m n d)
  | 0x7#4 => some (.mFmulD m n d)
  | 0xE#4 => some (.mFmacS m n d)
  | _ => none

/-- Major opcode 14. -/
def decodeMajor14 (e : BitVec 4) (m : BitVec 6) (n : BitVec 6) (d : BitVec 6) : Option Instr :=
  match e with
  | 0x0#4 => some (.mFmovS m n d)
  | 0x1#4 => some (.mFmovD m n d)
  | 0x4#4 => some (.mFsqrtS m n d)
  | 0x5#4 => some (.mFsqrtD m n d)
  | 0x6#4 => some (.mFcnvSd m n d)
  | 0x7#4 => some (.mFcnvDs m n d)
  | 0x8#4 => some (.mFtrcSl m n d)
  | 0x9#4 => some (.mFtrcDq m n d)
  | 0xA#4 => some (.mFtrcSq m n d)
  | 0xB#4 => some (.mFtrcDl m n d)
  | 0xC#4 => some (.mFloatLs m n d)
  | 0xD#4 => some (.mFloatQd m n d)
  | 0xE#4 => some (.mFloatLd m n d)
  | 0xF#4 => some (.mFloatQs m n d)
  | _ => none

/-- Major opcode 16. -/
def decodeMajor16 (e : BitVec 4) (m : BitVec 6) (n : BitVec 6) (d : BitVec 6) : Option Instr :=
  match e with
  | 0x0#4 => some (.mLdxB m n d)
  | 0x1#4 => some (.mLdxW m n d)
  | 0x2#4 => some (.mLdxL m n d)
  | 0x3#4 => some (.mLdxQ m n d)
  | 0x4#4 => some (.mLdxUb m n d)
  | 0x8#4 => some (.mFldxS m n d)
  | 0x9#4 => some (.mFldxD m n d)
  | 0xC#4 => some (.mLdxUw m n d)
  | 0xD#4 => some (.mFldxP m n d)
  | _ => none

/-- Major opcode 17. -/
def decodeMajor17 (e : BitVec 4) (m : BitVec 6) (n : BitVec 6) (d : BitVec 6) : Option Instr :=
  match e with
  | 0x1#4 => if m.extractLsb' 3 3 = 0x0#3 ∧ n = 0x3F#6 then some (.mBlink (m.extractLsb' 0 3) d) else none
  | 0x5#4 => if m.extractLsb' 3 3 = 0x0#3 ∧ n = 0x3F#6 then some (.mGettr (m.extractLsb' 0 3) d) else none
  | _ => none

/-- Major opcode 18. -/
def decodeMajor18 (e : BitVec 4) (m : BitVec 6) (n : BitVec 6) (d : BitVec 6) : Option Instr :=
  match e with
  | 0x0#4 => some (.mMsadUbq m n d)
  | 0x1#4 => some (.mMmacfxWl m n d)
  | 0x3#4 => some (.mMcmv m n d)
  | 0x5#4 => some (.mMmacnfxWl m n d)
  | 0x9#4 => some (.mMmulsumWq m n d)
  | _ => none

/-- Major opcode 19. -/
def decodeMajor19 (e : BitVec 4) (m : BitVec 6) (n : BitVec 6) (d : BitVec 6) : Option Instr :=
  match e with
  | 0x1#4 => some (.mMmulW m n d)
  | 0x2#4 => some (.mMmulL m n d)
  | 0x5#4 => some (.mMmulfxW m n d)
  | 0x6#4 => some (.mMmulfxL m n d)
  | 0x9#4 => some (.mMmulfxrpW m n d)
  | 0xA#4 => some (.mMmulloWl m n d)
  | 0xE#4 => some (.mMmulhiWl m n d)
  | _ => none

/-- Major opcode 24. -/
def decodeMajor24 (e : BitVec 4) (m : BitVec 6) (n : BitVec 6) (d : BitVec 6) : Option Instr :=
  match e with
  | 0x0#4 => some (.mStxB m n d)
  | 0x1#4 => some (.mStxW m n d)
  | 0x2#4 => some (.mStxL m n d)
  | 0x3#4 => some (.mStxQ m n d)
  | 0x8#4 => some (.mFstxS m n d)
  | 0x9#4 => some (.mFstxD m n d)
  | 0xD#4 => some (.mFstxP m n d)
  | _ => none

/-- Major opcode 25. -/
def decodeMajor25 (e : BitVec 4) (m : BitVec 6) (n : BitVec 6) (d : BitVec 6) : Option Instr :=
  match e with
  | 0x1#4 => if branchRes d = 0x0#2 then some (.mBeq m n (likelyF d) (targetF d)) else none
  | 0x3#4 => if branchRes d = 0x0#2 then some (.mBge m n (likelyF d) (targetF d)) else none
  | 0x5#4 => if branchRes d = 0x0#2 then some (.mBne m n (likelyF d) (targetF d)) else none
  | 0x7#4 => if branchRes d = 0x0#2 then some (.mBgt m n (likelyF d) (targetF d)) else none
  | 0xB#4 => if branchRes d = 0x0#2 then some (.mBgeu m n (likelyF d) (targetF d)) else none
  | 0xF#4 => if branchRes d = 0x0#2 then some (.mBgtu m n (likelyF d) (targetF d)) else none
  | _ => none

/-- Major opcode 26. -/
def decodeMajor26 (e : BitVec 4) (m : BitVec 6) (n : BitVec 6) (d : BitVec 6) : Option Instr :=
  match e with
  | 0x1#4 => if m = 0x3F#6 ∧ branchRes d = 0x0#2 then some (.mPtabs n (likelyF d) (targetF d)) else none
  | 0x5#4 => if m = 0x3F#6 ∧ branchRes d = 0x0#2 then some (.mPtrel n (likelyF d) (targetF d)) else none
  | _ => none

/-- Major opcode 27. -/
def decodeMajor27 (e : BitVec 4) (m : BitVec 6) (n : BitVec 6) (d : BitVec 6) : Option Instr :=
  match e with
  | 0x0#4 => if m = 0x3F#6 ∧ n = 0x3F#6 ∧ d = 0x3F#6 then some (.mNop) else none
  | 0x1#4 => if n = 0x3F#6 ∧ d = 0x3F#6 then some (.mTrapa m) else none
  | 0x2#4 => if m = 0x3F#6 ∧ n = 0x3F#6 ∧ d = 0x3F#6 then some (.mSynci) else none
  | 0x3#4 => if m = 0x3F#6 ∧ n = 0x3F#6 ∧ d = 0x3F#6 then some (.mRte) else none
  | 0x5#4 => if m = 0x3F#6 ∧ n = 0x3F#6 ∧ d = 0x3F#6 then some (.mBrk) else none
  | 0x6#4 => if m = 0x3F#6 ∧ n = 0x3F#6 ∧ d = 0x3F#6 then some (.mSynco) else none
  | 0x7#4 => if m = 0x3F#6 ∧ n = 0x3F#6 ∧ d = 0x3F#6 then some (.mSleep) else none
  | 0xF#4 => if n = 0x3F#6 then some (.mPutcon m d) else none
  | _ => none

/-- Major opcode 48. -/
def decodeMajor48 (e : BitVec 4) (m : BitVec 6) (n : BitVec 6) (d : BitVec 6) : Option Instr :=
  match e with
  | 0x2#4 => some (.mLdloL m n d)
  | 0x3#4 => some (.mLdloQ m n d)
  | 0x6#4 => some (.mLdhiL m n d)
  | 0x7#4 => some (.mLdhiQ m n d)
  | 0xF#4 => some (.mGetcfg m n d)
  | _ => none

/-- Major opcode 49. -/
def decodeMajor49 (e : BitVec 4) (m : BitVec 6) (n : BitVec 6) (d : BitVec 6) : Option Instr :=
  match e with
  | 0x0#4 => some (.mShlliL m n d)
  | 0x1#4 => some (.mShlli m n d)
  | 0x2#4 => some (.mShlriL m n d)
  | 0x3#4 => some (.mShlri m n d)
  | 0x6#4 => some (.mShariL m n d)
  | 0x7#4 => some (.mShari m n d)
  | 0xD#4 => some (.mXori m n d)
  | _ => none

/-- Major opcode 56. -/
def decodeMajor56 (e : BitVec 4) (m : BitVec 6) (n : BitVec 6) (d : BitVec 6) : Option Instr :=
  match e with
  | 0x1#4 => if d = 0x3F#6 then some (.mPrefi m n) else none
  | 0x2#4 => some (.mStloL m n d)
  | 0x3#4 => some (.mStloQ m n d)
  | 0x4#4 => if d = 0x3F#6 then some (.mAlloco m n) else none
  | 0x5#4 => if d = 0x3F#6 then some (.mIcbi m n) else none
  | 0x6#4 => some (.mSthiL m n d)
  | 0x7#4 => some (.mSthiQ m n d)
  | 0x8#4 => if d = 0x3F#6 then some (.mOcbp m n) else none
  | 0x9#4 => if d = 0x3F#6 then some (.mOcbi m n) else none
  | 0xC#4 => if d = 0x3F#6 then some (.mOcbwb m n) else none
  | 0xF#4 => some (.mPutcfg m n d)
  | _ => none

/-- Major opcode 57. -/
def decodeMajor57 (e : BitVec 4) (m : BitVec 6) (n : BitVec 6) (d : BitVec 6) : Option Instr :=
  match e with
  | 0x1#4 => if branchRes d = 0x0#2 then some (.mBeqi m n (likelyF d) (targetF d)) else none
  | 0x5#4 => if branchRes d = 0x0#2 then some (.mBnei m n (likelyF d) (targetF d)) else none
  | _ => none

/-- The row that a media word matches, if any (30 R118, R126). -/
def decodeMedia (w : Word) : Option Instr :=
  if resF w = 0x0#4 then
    match opF w with
    | 0x0#6 => decodeMajor0 (extF w) (mF w) (nF w) (dF w)
    | 0x1#6 => decodeMajor1 (extF w) (mF w) (nF w) (dF w)
    | 0x2#6 => decodeMajor2 (extF w) (mF w) (nF w) (dF w)
    | 0x3#6 => decodeMajor3 (extF w) (mF w) (nF w) (dF w)
    | 0x5#6 => decodeMajor5 (extF w) (mF w) (nF w) (dF w)
    | 0x6#6 => decodeMajor6 (extF w) (mF w) (nF w) (dF w)
    | 0x7#6 => decodeMajor7 (extF w) (mF w) (nF w) (dF w)
    | 0x8#6 => decodeMajor8 (extF w) (mF w) (nF w) (dF w)
    | 0x9#6 => decodeMajor9 (extF w) (mF w) (nF w) (dF w)
    | 0xA#6 => decodeMajor10 (extF w) (mF w) (nF w) (dF w)
    | 0xB#6 => decodeMajor11 (extF w) (mF w) (nF w) (dF w)
    | 0xC#6 => decodeMajor12 (extF w) (mF w) (nF w) (dF w)
    | 0xD#6 => decodeMajor13 (extF w) (mF w) (nF w) (dF w)
    | 0xE#6 => decodeMajor14 (extF w) (mF w) (nF w) (dF w)
    | 0x10#6 => decodeMajor16 (extF w) (mF w) (nF w) (dF w)
    | 0x11#6 => decodeMajor17 (extF w) (mF w) (nF w) (dF w)
    | 0x12#6 => decodeMajor18 (extF w) (mF w) (nF w) (dF w)
    | 0x13#6 => decodeMajor19 (extF w) (mF w) (nF w) (dF w)
    | 0x18#6 => decodeMajor24 (extF w) (mF w) (nF w) (dF w)
    | 0x19#6 => decodeMajor25 (extF w) (mF w) (nF w) (dF w)
    | 0x1A#6 => decodeMajor26 (extF w) (mF w) (nF w) (dF w)
    | 0x1B#6 => decodeMajor27 (extF w) (mF w) (nF w) (dF w)
    | 0x20#6 => some (.mLdB (mF w) (imm10F w) (dF w))
    | 0x21#6 => some (.mLdW (mF w) (imm10F w) (dF w))
    | 0x22#6 => some (.mLdL (mF w) (imm10F w) (dF w))
    | 0x23#6 => some (.mLdQ (mF w) (imm10F w) (dF w))
    | 0x24#6 => some (.mLdUb (mF w) (imm10F w) (dF w))
    | 0x25#6 => some (.mFldS (mF w) (imm10F w) (dF w))
    | 0x26#6 => some (.mFldP (mF w) (imm10F w) (dF w))
    | 0x27#6 => some (.mFldD (mF w) (imm10F w) (dF w))
    | 0x28#6 => some (.mStB (mF w) (imm10F w) (dF w))
    | 0x29#6 => some (.mStW (mF w) (imm10F w) (dF w))
    | 0x2A#6 => some (.mStL (mF w) (imm10F w) (dF w))
    | 0x2B#6 => some (.mStQ (mF w) (imm10F w) (dF w))
    | 0x2C#6 => some (.mLdUw (mF w) (imm10F w) (dF w))
    | 0x2D#6 => some (.mFstS (mF w) (imm10F w) (dF w))
    | 0x2E#6 => some (.mFstP (mF w) (imm10F w) (dF w))
    | 0x2F#6 => some (.mFstD (mF w) (imm10F w) (dF w))
    | 0x30#6 => decodeMajor48 (extF w) (mF w) (nF w) (dF w)
    | 0x31#6 => decodeMajor49 (extF w) (mF w) (nF w) (dF w)
    | 0x32#6 => some (.mShori (imm16F w) (dF w))
    | 0x33#6 => some (.mMovi (imm16F w) (dF w))
    | 0x34#6 => some (.mAddi (mF w) (imm10F w) (dF w))
    | 0x35#6 => some (.mAddiL (mF w) (imm10F w) (dF w))
    | 0x36#6 => some (.mAndi (mF w) (imm10F w) (dF w))
    | 0x37#6 => some (.mOri (mF w) (imm10F w) (dF w))
    | 0x38#6 => decodeMajor56 (extF w) (mF w) (nF w) (dF w)
    | 0x39#6 => decodeMajor57 (extF w) (mF w) (nF w) (dF w)
    | 0x3A#6 => if branchRes (dF w) = 0x0#2 then some (.mPta (imm16F w) (likelyF (dF w)) (targetF (dF w))) else none
    | 0x3B#6 => if branchRes (dF w) = 0x0#2 then some (.mPtb (imm16F w) (likelyF (dF w)) (targetF (dF w))) else none
    | _ => none
  else none

/-! ### The encoder: the same patterns, read the other way -/

/-- The code of an instruction: a compact halfword, two compact halfwords, the first at the lower address, or a media
word. -/
inductive Code where
  | half (h : Half)
  | pair (h h2 : Half)
  | word (w : Word)
  deriving DecidableEq, Repr

/-- A compact halfword from four nibbles. -/
def c4 (t n m z : BitVec 4) : Half := t ++ n ++ m ++ z

/-- A compact halfword from two nibbles and an 8-bit field. -/
def c48 (t n : BitVec 4) (i8 : BitVec 8) : Half := t ++ n ++ i8

/-- A compact halfword from a nibble and a 12-bit field. -/
def c412 (t : BitVec 4) (d12 : BitVec 12) : Half := t ++ d12

/-- A media word from its fields; the reserved bits are 0. -/
def w6 (op m : BitVec 6) (e : BitVec 4) (n d : BitVec 6) : Word := op ++ m ++ e ++ n ++ d ++ 0#4

/-- A media word with a 10-bit immediate. -/
def w10 (op m : BitVec 6) (imm : BitVec 10) (d : BitVec 6) : Word := op ++ m ++ imm ++ d ++ 0#4

/-- A media word with a 16-bit immediate. -/
def w16 (op : BitVec 6) (imm : BitVec 16) (d : BitVec 6) : Word := op ++ imm ++ d ++ 0#4

/-- The `d` field of a branch form. -/
def branchD (l : BitVec 1) (a : TReg) : BitVec 6 := l ++ 0#2 ++ a

/-- The `m` field of a form that reads a target register. -/
def trM (b : TReg) : BitVec 6 := 0#3 ++ b

/-- The code of an instruction, from its row of spec/opcode_table.json. -/
def encode : Instr → Code
  | .cAdd m n => .half (c4 0x3#4 n m 0xC#4)
  | .cAddImm imm n => .half (c48 0x7#4 n imm)
  | .cAddc m n => .half (c4 0x3#4 n m 0xE#4)
  | .cAddv m n => .half (c4 0x3#4 n m 0xF#4)
  | .cCmpEqImm imm => .half (c48 0x8#4 0x8#4 imm)
  | .cCmpEq m n => .half (c4 0x3#4 n m 0x0#4)
  | .cCmpHs m n => .half (c4 0x3#4 n m 0x2#4)
  | .cCmpGe m n => .half (c4 0x3#4 n m 0x3#4)
  | .cCmpHi m n => .half (c4 0x3#4 n m 0x6#4)
  | .cCmpGt m n => .half (c4 0x3#4 n m 0x7#4)
  | .cCmpPz n => .half (c4 0x4#4 n 0x1#4 0x1#4)
  | .cCmpPl n => .half (c4 0x4#4 n 0x1#4 0x5#4)
  | .cCmpStr m n => .half (c4 0x2#4 n m 0xC#4)
  | .cDiv0s m n => .half (c4 0x2#4 n m 0x7#4)
  | .cDiv0u => .half (c4 0x0#4 0x0#4 0x1#4 0x9#4)
  | .cDiv1 m n => .half (c4 0x3#4 n m 0x4#4)
  | .cDivu n => .half (c4 0x4#4 n 0x9#4 0x4#4)
  | .cDmulsL m n => .half (c4 0x3#4 n m 0xD#4)
  | .cDmuluL m n => .half (c4 0x3#4 n m 0x5#4)
  | .cDt n => .half (c4 0x4#4 n 0x1#4 0x0#4)
  | .cExtsB m n => .half (c4 0x6#4 n m 0xE#4)
  | .cExtsW m n => .half (c4 0x6#4 n m 0xF#4)
  | .cExtuB m n => .half (c4 0x6#4 n m 0xC#4)
  | .cExtuW m n => .half (c4 0x6#4 n m 0xD#4)
  | .cMacL m n => .half (c4 0x0#4 n m 0xF#4)
  | .cMacW m n => .half (c4 0x4#4 n m 0xF#4)
  | .cMulL m n => .half (c4 0x0#4 n m 0x7#4)
  | .cMulr n => .half (c4 0x4#4 n 0x8#4 0x0#4)
  | .cMulsW m n => .half (c4 0x2#4 n m 0xF#4)
  | .cMuluW m n => .half (c4 0x2#4 n m 0xE#4)
  | .cNeg m n => .half (c4 0x6#4 n m 0xB#4)
  | .cNegc m n => .half (c4 0x6#4 n m 0xA#4)
  | .cSub m n => .half (c4 0x3#4 n m 0x8#4)
  | .cSubc m n => .half (c4 0x3#4 n m 0xA#4)
  | .cSubv m n => .half (c4 0x3#4 n m 0xB#4)
  | .cAnd m n => .half (c4 0x2#4 n m 0x9#4)
  | .cAndImm imm => .half (c48 0xC#4 0x9#4 imm)
  | .cAndB imm => .half (c48 0xC#4 0xD#4 imm)
  | .cNot m n => .half (c4 0x6#4 n m 0x7#4)
  | .cOr m n => .half (c4 0x2#4 n m 0xB#4)
  | .cOrImm imm => .half (c48 0xC#4 0xB#4 imm)
  | .cOrB imm => .half (c48 0xC#4 0xF#4 imm)
  | .cTasB n => .half (c4 0x4#4 n 0x1#4 0xB#4)
  | .cTst m n => .half (c4 0x2#4 n m 0x8#4)
  | .cTstImm imm => .half (c48 0xC#4 0x8#4 imm)
  | .cTstB imm => .half (c48 0xC#4 0xC#4 imm)
  | .cXor m n => .half (c4 0x2#4 n m 0xA#4)
  | .cXorImm imm => .half (c48 0xC#4 0xA#4 imm)
  | .cXorB imm => .half (c48 0xC#4 0xE#4 imm)
  | .cRotl n => .half (c4 0x4#4 n 0x0#4 0x4#4)
  | .cRotr n => .half (c4 0x4#4 n 0x0#4 0x5#4)
  | .cRotcl n => .half (c4 0x4#4 n 0x2#4 0x4#4)
  | .cRotcr n => .half (c4 0x4#4 n 0x2#4 0x5#4)
  | .cShad m n => .half (c4 0x4#4 n m 0xC#4)
  | .cShal n => .half (c4 0x4#4 n 0x2#4 0x0#4)
  | .cShar n => .half (c4 0x4#4 n 0x2#4 0x1#4)
  | .cShld m n => .half (c4 0x4#4 n m 0xD#4)
  | .cShll n => .half (c4 0x4#4 n 0x0#4 0x0#4)
  | .cShll2 n => .half (c4 0x4#4 n 0x0#4 0x8#4)
  | .cShll8 n => .half (c4 0x4#4 n 0x1#4 0x8#4)
  | .cShll16 n => .half (c4 0x4#4 n 0x2#4 0x8#4)
  | .cShlr n => .half (c4 0x4#4 n 0x0#4 0x1#4)
  | .cShlr2 n => .half (c4 0x4#4 n 0x0#4 0x9#4)
  | .cShlr8 n => .half (c4 0x4#4 n 0x1#4 0x9#4)
  | .cShlr16 n => .half (c4 0x4#4 n 0x2#4 0x9#4)
  | .cMov m n => .half (c4 0x6#4 n m 0x3#4)
  | .cMovImm imm n => .half (c48 0xE#4 n imm)
  | .cMovi20 imm n => .pair (c4 0x0#4 n (imm.extractLsb' 16 4) 0x0#4) (imm.extractLsb' 0 16)
  | .cMovi20s imm n => .pair (c4 0x0#4 n (imm.extractLsb' 16 4) 0x1#4) (imm.extractLsb' 0 16)
  | .cMova disp => .half (c48 0xC#4 0x7#4 disp)
  | .cMovWLoadPc disp n => .half (c48 0x9#4 n disp)
  | .cMovLLoadPc disp n => .half (c48 0xD#4 n disp)
  | .cMovBLoad m n => .half (c4 0x6#4 n m 0x0#4)
  | .cMovWLoad m n => .half (c4 0x6#4 n m 0x1#4)
  | .cMovLLoad m n => .half (c4 0x6#4 n m 0x2#4)
  | .cMovBLoadInc m n => .half (c4 0x6#4 n m 0x4#4)
  | .cMovWLoadInc m n => .half (c4 0x6#4 n m 0x5#4)
  | .cMovLLoadInc m n => .half (c4 0x6#4 n m 0x6#4)
  | .cMovBLoadIdx m n => .half (c4 0x0#4 n m 0xC#4)
  | .cMovWLoadIdx m n => .half (c4 0x0#4 n m 0xD#4)
  | .cMovLLoadIdx m n => .half (c4 0x0#4 n m 0xE#4)
  | .cMovBLoadDisp m disp => .half (c4 0x8#4 0x4#4 m disp)
  | .cMovWLoadDisp m disp => .half (c4 0x8#4 0x5#4 m disp)
  | .cMovLLoadDisp m disp n => .half (c4 0x5#4 n m disp)
  | .cMovLLoadDisp12 m disp n => .pair (c4 0x3#4 n m 0x1#4) (c412 0x6#4 disp)
  | .cMovBLoadGbr disp => .half (c48 0xC#4 0x4#4 disp)
  | .cMovWLoadGbr disp => .half (c48 0xC#4 0x5#4 disp)
  | .cMovLLoadGbr disp => .half (c48 0xC#4 0x6#4 disp)
  | .cMovuaL m => .half (c4 0x4#4 m 0xA#4 0x9#4)
  | .cMovuaLInc m => .half (c4 0x4#4 m 0xE#4 0x9#4)
  | .cMovBStore m n => .half (c4 0x2#4 n m 0x0#4)
  | .cMovWStore m n => .half (c4 0x2#4 n m 0x1#4)
  | .cMovLStore m n => .half (c4 0x2#4 n m 0x2#4)
  | .cMovBStoreDec m n => .half (c4 0x2#4 n m 0x4#4)
  | .cMovWStoreDec m n => .half (c4 0x2#4 n m 0x5#4)
  | .cMovLStoreDec m n => .half (c4 0x2#4 n m 0x6#4)
  | .cMovBStoreIdx m n => .half (c4 0x0#4 n m 0x4#4)
  | .cMovWStoreIdx m n => .half (c4 0x0#4 n m 0x5#4)
  | .cMovLStoreIdx m n => .half (c4 0x0#4 n m 0x6#4)
  | .cMovBStoreDisp disp n => .half (c4 0x8#4 0x0#4 n disp)
  | .cMovWStoreDisp disp n => .half (c4 0x8#4 0x1#4 n disp)
  | .cMovLStoreDisp m disp n => .half (c4 0x1#4 n m disp)
  | .cMovLStoreDisp12 m disp n => .pair (c4 0x3#4 n m 0x1#4) (c412 0x2#4 disp)
  | .cMovBStoreGbr disp => .half (c48 0xC#4 0x0#4 disp)
  | .cMovWStoreGbr disp => .half (c48 0xC#4 0x1#4 disp)
  | .cMovLStoreGbr disp => .half (c48 0xC#4 0x2#4 disp)
  | .cMovcaL n => .half (c4 0x0#4 n 0xC#4 0x3#4)
  | .cMovcoL n => .half (c4 0x0#4 n 0x7#4 0x3#4)
  | .cMovliL m => .half (c4 0x0#4 m 0x6#4 0x3#4)
  | .cMovt n => .half (c4 0x0#4 n 0x2#4 0x9#4)
  | .cSwapB m n => .half (c4 0x6#4 n m 0x8#4)
  | .cSwapW m n => .half (c4 0x6#4 n m 0x9#4)
  | .cXtrct m n => .half (c4 0x2#4 n m 0xD#4)
  | .cBf disp => .half (c48 0x8#4 0xB#4 disp)
  | .cBfS disp => .half (c48 0x8#4 0xF#4 disp)
  | .cBt disp => .half (c48 0x8#4 0x9#4 disp)
  | .cBtS disp => .half (c48 0x8#4 0xD#4 disp)
  | .cBra disp => .half (c412 0xA#4 disp)
  | .cBraf m => .half (c4 0x0#4 m 0x2#4 0x3#4)
  | .cBsr disp => .half (c412 0xB#4 disp)
  | .cBsrf m => .half (c4 0x0#4 m 0x0#4 0x3#4)
  | .cJmp m => .half (c4 0x4#4 m 0x2#4 0xB#4)
  | .cJsr m => .half (c4 0x4#4 m 0x0#4 0xB#4)
  | .cRts => .half (c4 0x0#4 0x0#4 0x0#4 0xB#4)
  | .cClrmac => .half (c4 0x0#4 0x0#4 0x2#4 0x8#4)
  | .cClrs => .half (c4 0x0#4 0x0#4 0x4#4 0x8#4)
  | .cClrt => .half (c4 0x0#4 0x0#4 0x0#4 0x8#4)
  | .cSets => .half (c4 0x0#4 0x0#4 0x5#4 0x8#4)
  | .cSett => .half (c4 0x0#4 0x0#4 0x1#4 0x8#4)
  | .cNop => .half (c4 0x0#4 0x0#4 0x0#4 0x9#4)
  | .cLdcSr m => .half (c4 0x4#4 m 0x0#4 0xE#4)
  | .cLdcGbr m => .half (c4 0x4#4 m 0x1#4 0xE#4)
  | .cLdcVbr m => .half (c4 0x4#4 m 0x2#4 0xE#4)
  | .cLdcLGbr m => .half (c4 0x4#4 m 0x1#4 0x7#4)
  | .cLdcLVbr m => .half (c4 0x4#4 m 0x2#4 0x7#4)
  | .cLdsMach m => .half (c4 0x4#4 m 0x0#4 0xA#4)
  | .cLdsMacl m => .half (c4 0x4#4 m 0x1#4 0xA#4)
  | .cLdsPr m => .half (c4 0x4#4 m 0x2#4 0xA#4)
  | .cLdsLMach m => .half (c4 0x4#4 m 0x0#4 0x6#4)
  | .cLdsLMacl m => .half (c4 0x4#4 m 0x1#4 0x6#4)
  | .cLdsLPr m => .half (c4 0x4#4 m 0x2#4 0x6#4)
  | .cStcGbr n => .half (c4 0x0#4 n 0x1#4 0x2#4)
  | .cStcVbr n => .half (c4 0x0#4 n 0x2#4 0x2#4)
  | .cStcLGbr n => .half (c4 0x4#4 n 0x1#4 0x3#4)
  | .cStcLVbr n => .half (c4 0x4#4 n 0x2#4 0x3#4)
  | .cStsMach n => .half (c4 0x0#4 n 0x0#4 0xA#4)
  | .cStsMacl n => .half (c4 0x0#4 n 0x1#4 0xA#4)
  | .cStsPr n => .half (c4 0x0#4 n 0x2#4 0xA#4)
  | .cStsLMach n => .half (c4 0x4#4 n 0x0#4 0x2#4)
  | .cStsLMacl n => .half (c4 0x4#4 n 0x1#4 0x2#4)
  | .cStsLPr n => .half (c4 0x4#4 n 0x2#4 0x2#4)
  | .cTrapa imm => .half (c48 0xC#4 0x3#4 imm)
  | .cBrk => .half (c4 0x0#4 0x0#4 0x3#4 0xB#4)
  | .cPref n => .half (c4 0x0#4 n 0x8#4 0x3#4)
  | .cOcbi n => .half (c4 0x0#4 n 0x9#4 0x3#4)
  | .cOcbp n => .half (c4 0x0#4 n 0xA#4 0x3#4)
  | .cOcbwb n => .half (c4 0x0#4 n 0xB#4 0x3#4)
  | .cFabs n => .half (c4 0xF#4 n 0x5#4 0xD#4)
  | .cFneg n => .half (c4 0xF#4 n 0x4#4 0xD#4)
  | .cFadd m n => .half (c4 0xF#4 n m 0x0#4)
  | .cFsub m n => .half (c4 0xF#4 n m 0x1#4)
  | .cFmul m n => .half (c4 0xF#4 n m 0x2#4)
  | .cFdiv m n => .half (c4 0xF#4 n m 0x3#4)
  | .cFsqrt n => .half (c4 0xF#4 n 0x6#4 0xD#4)
  | .cFcmpEq m n => .half (c4 0xF#4 n m 0x4#4)
  | .cFcmpGt m n => .half (c4 0xF#4 n m 0x5#4)
  | .cFmac m n => .half (c4 0xF#4 n m 0xE#4)
  | .cFldi0 n => .half (c4 0xF#4 n 0x8#4 0xD#4)
  | .cFldi1 n => .half (c4 0xF#4 n 0x9#4 0xD#4)
  | .cFlds m => .half (c4 0xF#4 m 0x1#4 0xD#4)
  | .cFsts n => .half (c4 0xF#4 n 0x0#4 0xD#4)
  | .cFloat n => .half (c4 0xF#4 n 0x2#4 0xD#4)
  | .cFtrc m => .half (c4 0xF#4 m 0x3#4 0xD#4)
  | .cFcnvsd n => .half (c4 0xF#4 (n ++ 0x0#1) 0xA#4 0xD#4)
  | .cFcnvds m => .half (c4 0xF#4 (m ++ 0x0#1) 0xB#4 0xD#4)
  | .cFipr m n => .half (c4 0xF#4 (n ++ m) 0xE#4 0xD#4)
  | .cFtrv n => .half (c4 0xF#4 (n ++ 0x1#2) 0xF#4 0xD#4)
  | .cFrchg => .half (c4 0xF#4 0xB#4 0xF#4 0xD#4)
  | .cFschg => .half (c4 0xF#4 0x3#4 0xF#4 0xD#4)
  | .cFmov m n => .half (c4 0xF#4 n m 0xC#4)
  | .cFmovLoad m n => .half (c4 0xF#4 n m 0x8#4)
  | .cFmovLoadInc m n => .half (c4 0xF#4 n m 0x9#4)
  | .cFmovLoadIdx m n => .half (c4 0xF#4 n m 0x6#4)
  | .cFmovLoadDisp12 m disp n => .pair (c4 0x3#4 (n ++ 0x0#1) m 0x1#4) (c412 0x7#4 disp)
  | .cFmovStore m n => .half (c4 0xF#4 n m 0xA#4)
  | .cFmovStoreDec m n => .half (c4 0xF#4 n m 0xB#4)
  | .cFmovStoreIdx m n => .half (c4 0xF#4 n m 0x7#4)
  | .cFmovStoreDisp12 m disp n => .pair (c4 0x3#4 n (m ++ 0x0#1) 0x1#4) (c412 0x3#4 disp)
  | .cLdsFpscr m => .half (c4 0x4#4 m 0x6#4 0xA#4)
  | .cLdsFpul m => .half (c4 0x4#4 m 0x5#4 0xA#4)
  | .cLdsLFpscr m => .half (c4 0x4#4 m 0x6#4 0x6#4)
  | .cLdsLFpul m => .half (c4 0x4#4 m 0x5#4 0x6#4)
  | .cStsFpscr n => .half (c4 0x0#4 n 0x6#4 0xA#4)
  | .cStsFpul n => .half (c4 0x0#4 n 0x5#4 0xA#4)
  | .cStsLFpscr n => .half (c4 0x4#4 n 0x6#4 0x2#4)
  | .cStsLFpul n => .half (c4 0x4#4 n 0x5#4 0x2#4)
  | .mAdd m n d => .word (w6 0x0#6 m 0x9#4 n d)
  | .mAddL m n d => .word (w6 0x0#6 m 0x8#4 n d)
  | .mAddi m imm d => .word (w10 0x34#6 m imm d)
  | .mAddiL m imm d => .word (w10 0x35#6 m imm d)
  | .mAddzL m n d => .word (w6 0x0#6 m 0xC#4 n d)
  | .mSub m n d => .word (w6 0x0#6 m 0xB#4 n d)
  | .mSubL m n d => .word (w6 0x0#6 m 0xA#4 n d)
  | .mAnd m n d => .word (w6 0x1#6 m 0xB#4 n d)
  | .mAndc m n d => .word (w6 0x1#6 m 0xF#4 n d)
  | .mAndi m imm d => .word (w10 0x36#6 m imm d)
  | .mOr m n d => .word (w6 0x1#6 m 0x9#4 n d)
  | .mOri m imm d => .word (w10 0x37#6 m imm d)
  | .mXor m n d => .word (w6 0x1#6 m 0xD#4 n d)
  | .mXori m imm d => .word (w6 0x31#6 m 0xD#4 imm d)
  | .mCmpeq m n d => .word (w6 0x0#6 m 0x1#4 n d)
  | .mCmpgt m n d => .word (w6 0x0#6 m 0x3#4 n d)
  | .mCmpgtu m n d => .word (w6 0x0#6 m 0x7#4 n d)
  | .mCmveq m n d => .word (w6 0x8#6 m 0x1#4 n d)
  | .mCmvne m n d => .word (w6 0x8#6 m 0x5#4 n d)
  | .mNsb m d => .word (w6 0x0#6 m 0xD#4 0x3F#6 d)
  | .mByterev m d => .word (w6 0x0#6 m 0xF#4 0x3F#6 d)
  | .mMuluL m n d => .word (w6 0x0#6 m 0xE#4 n d)
  | .mMulsL m n d => .word (w6 0x1#6 m 0xE#4 n d)
  | .mShlld m n d => .word (w6 0x1#6 m 0x1#4 n d)
  | .mShlldL m n d => .word (w6 0x1#6 m 0x0#4 n d)
  | .mShlrd m n d => .word (w6 0x1#6 m 0x3#4 n d)
  | .mShlrdL m n d => .word (w6 0x1#6 m 0x2#4 n d)
  | .mShard m n d => .word (w6 0x1#6 m 0x7#4 n d)
  | .mShardL m n d => .word (w6 0x1#6 m 0x6#4 n d)
  | .mShlli m imm d => .word (w6 0x31#6 m 0x1#4 imm d)
  | .mShlliL m imm d => .word (w6 0x31#6 m 0x0#4 imm d)
  | .mShlri m imm d => .word (w6 0x31#6 m 0x3#4 imm d)
  | .mShlriL m imm d => .word (w6 0x31#6 m 0x2#4 imm d)
  | .mShari m imm d => .word (w6 0x31#6 m 0x7#4 imm d)
  | .mShariL m imm d => .word (w6 0x31#6 m 0x6#4 imm d)
  | .mMovi imm d => .word (w16 0x33#6 imm d)
  | .mShori imm d => .word (w16 0x32#6 imm d)
  | .mMaddW m n d => .word (w6 0x2#6 m 0x1#4 n d)
  | .mMaddL m n d => .word (w6 0x2#6 m 0x2#4 n d)
  | .mMaddsUb m n d => .word (w6 0x2#6 m 0x4#4 n d)
  | .mMaddsW m n d => .word (w6 0x2#6 m 0x5#4 n d)
  | .mMaddsL m n d => .word (w6 0x2#6 m 0x6#4 n d)
  | .mMsubW m n d => .word (w6 0x2#6 m 0x9#4 n d)
  | .mMsubL m n d => .word (w6 0x2#6 m 0xA#4 n d)
  | .mMsubsUb m n d => .word (w6 0x2#6 m 0xC#4 n d)
  | .mMsubsW m n d => .word (w6 0x2#6 m 0xD#4 n d)
  | .mMsubsL m n d => .word (w6 0x2#6 m 0xE#4 n d)
  | .mMabsW m d => .word (w6 0xA#6 m 0x9#4 0x3F#6 d)
  | .mMabsL m d => .word (w6 0xA#6 m 0xA#4 0x3F#6 d)
  | .mMcmpeqB m n d => .word (w6 0xA#6 m 0x0#4 n d)
  | .mMcmpeqW m n d => .word (w6 0xA#6 m 0x1#4 n d)
  | .mMcmpeqL m n d => .word (w6 0xA#6 m 0x2#4 n d)
  | .mMcmpgtUb m n d => .word (w6 0xA#6 m 0x4#4 n d)
  | .mMcmpgtW m n d => .word (w6 0xA#6 m 0x5#4 n d)
  | .mMcmpgtL m n d => .word (w6 0xA#6 m 0x6#4 n d)
  | .mMcmv m n d => .word (w6 0x12#6 m 0x3#4 n d)
  | .mMcnvsLw m n d => .word (w6 0xB#6 m 0xD#4 n d)
  | .mMcnvsWb m n d => .word (w6 0xB#6 m 0x8#4 n d)
  | .mMcnvsWub m n d => .word (w6 0xB#6 m 0xC#4 n d)
  | .mMextr1 m n d => .word (w6 0xA#6 m 0x7#4 n d)
  | .mMextr2 m n d => .word (w6 0xA#6 m 0xB#4 n d)
  | .mMextr3 m n d => .word (w6 0xA#6 m 0xF#4 n d)
  | .mMextr4 m n d => .word (w6 0xB#6 m 0x3#4 n d)
  | .mMextr5 m n d => .word (w6 0xB#6 m 0x7#4 n d)
  | .mMextr6 m n d => .word (w6 0xB#6 m 0xB#4 n d)
  | .mMextr7 m n d => .word (w6 0xB#6 m 0xF#4 n d)
  | .mMmacfxWl m n d => .word (w6 0x12#6 m 0x1#4 n d)
  | .mMmacnfxWl m n d => .word (w6 0x12#6 m 0x5#4 n d)
  | .mMmulW m n d => .word (w6 0x13#6 m 0x1#4 n d)
  | .mMmulL m n d => .word (w6 0x13#6 m 0x2#4 n d)
  | .mMmulfxW m n d => .word (w6 0x13#6 m 0x5#4 n d)
  | .mMmulfxL m n d => .word (w6 0x13#6 m 0x6#4 n d)
  | .mMmulfxrpW m n d => .word (w6 0x13#6 m 0x9#4 n d)
  | .mMmulhiWl m n d => .word (w6 0x13#6 m 0xE#4 n d)
  | .mMmulloWl m n d => .word (w6 0x13#6 m 0xA#4 n d)
  | .mMmulsumWq m n d => .word (w6 0x12#6 m 0x9#4 n d)
  | .mMpermW m n d => .word (w6 0xA#6 m 0xD#4 n d)
  | .mMsadUbq m n d => .word (w6 0x12#6 m 0x0#4 n d)
  | .mMshaldsW m n d => .word (w6 0x3#6 m 0x5#4 n d)
  | .mMshaldsL m n d => .word (w6 0x3#6 m 0x6#4 n d)
  | .mMshardW m n d => .word (w6 0x3#6 m 0x9#4 n d)
  | .mMshardL m n d => .word (w6 0x3#6 m 0xA#4 n d)
  | .mMshardsQ m n d => .word (w6 0x3#6 m 0xB#4 n d)
  | .mMshlldW m n d => .word (w6 0x3#6 m 0x1#4 n d)
  | .mMshlldL m n d => .word (w6 0x3#6 m 0x2#4 n d)
  | .mMshlrdW m n d => .word (w6 0x3#6 m 0xD#4 n d)
  | .mMshlrdL m n d => .word (w6 0x3#6 m 0xE#4 n d)
  | .mMshfloB m n d => .word (w6 0xB#6 m 0x0#4 n d)
  | .mMshfloW m n d => .word (w6 0xB#6 m 0x1#4 n d)
  | .mMshfloL m n d => .word (w6 0xB#6 m 0x2#4 n d)
  | .mMshfhiB m n d => .word (w6 0xB#6 m 0x4#4 n d)
  | .mMshfhiW m n d => .word (w6 0xB#6 m 0x5#4 n d)
  | .mMshfhiL m n d => .word (w6 0xB#6 m 0x6#4 n d)
  | .mLdB m imm d => .word (w10 0x20#6 m imm d)
  | .mLdW m imm d => .word (w10 0x21#6 m imm d)
  | .mLdL m imm d => .word (w10 0x22#6 m imm d)
  | .mLdQ m imm d => .word (w10 0x23#6 m imm d)
  | .mLdUb m imm d => .word (w10 0x24#6 m imm d)
  | .mLdUw m imm d => .word (w10 0x2C#6 m imm d)
  | .mStB m imm d => .word (w10 0x28#6 m imm d)
  | .mStW m imm d => .word (w10 0x29#6 m imm d)
  | .mStL m imm d => .word (w10 0x2A#6 m imm d)
  | .mStQ m imm d => .word (w10 0x2B#6 m imm d)
  | .mLdxB m n d => .word (w6 0x10#6 m 0x0#4 n d)
  | .mLdxW m n d => .word (w6 0x10#6 m 0x1#4 n d)
  | .mLdxL m n d => .word (w6 0x10#6 m 0x2#4 n d)
  | .mLdxQ m n d => .word (w6 0x10#6 m 0x3#4 n d)
  | .mLdxUb m n d => .word (w6 0x10#6 m 0x4#4 n d)
  | .mLdxUw m n d => .word (w6 0x10#6 m 0xC#4 n d)
  | .mStxB m n d => .word (w6 0x18#6 m 0x0#4 n d)
  | .mStxW m n d => .word (w6 0x18#6 m 0x1#4 n d)
  | .mStxL m n d => .word (w6 0x18#6 m 0x2#4 n d)
  | .mStxQ m n d => .word (w6 0x18#6 m 0x3#4 n d)
  | .mLdloL m imm d => .word (w6 0x30#6 m 0x2#4 imm d)
  | .mLdloQ m imm d => .word (w6 0x30#6 m 0x3#4 imm d)
  | .mLdhiL m imm d => .word (w6 0x30#6 m 0x6#4 imm d)
  | .mLdhiQ m imm d => .word (w6 0x30#6 m 0x7#4 imm d)
  | .mStloL m imm d => .word (w6 0x38#6 m 0x2#4 imm d)
  | .mStloQ m imm d => .word (w6 0x38#6 m 0x3#4 imm d)
  | .mSthiL m imm d => .word (w6 0x38#6 m 0x6#4 imm d)
  | .mSthiQ m imm d => .word (w6 0x38#6 m 0x7#4 imm d)
  | .mSwapQ m n d => .word (w6 0x9#6 m 0x3#4 n d)
  | .mPrefi m imm => .word (w6 0x38#6 m 0x1#4 imm 0x3F#6)
  | .mAlloco m imm => .word (w6 0x38#6 m 0x4#4 imm 0x3F#6)
  | .mIcbi m imm => .word (w6 0x38#6 m 0x5#4 imm 0x3F#6)
  | .mOcbp m imm => .word (w6 0x38#6 m 0x8#4 imm 0x3F#6)
  | .mOcbi m imm => .word (w6 0x38#6 m 0x9#4 imm 0x3F#6)
  | .mOcbwb m imm => .word (w6 0x38#6 m 0xC#4 imm 0x3F#6)
  | .mGetcfg m imm d => .word (w6 0x30#6 m 0xF#4 imm d)
  | .mPutcfg m imm d => .word (w6 0x38#6 m 0xF#4 imm d)
  | .mPta imm l a => .word (w16 0x3A#6 imm (branchD l a))
  | .mPtb imm l a => .word (w16 0x3B#6 imm (branchD l a))
  | .mPtabs n l a => .word (w6 0x1A#6 0x3F#6 0x1#4 n (branchD l a))
  | .mPtrel n l a => .word (w6 0x1A#6 0x3F#6 0x5#4 n (branchD l a))
  | .mGettr b d => .word (w6 0x11#6 (trM b) 0x5#4 0x3F#6 d)
  | .mBlink b d => .word (w6 0x11#6 (trM b) 0x1#4 0x3F#6 d)
  | .mBeq m n l a => .word (w6 0x19#6 m 0x1#4 n (branchD l a))
  | .mBge m n l a => .word (w6 0x19#6 m 0x3#4 n (branchD l a))
  | .mBne m n l a => .word (w6 0x19#6 m 0x5#4 n (branchD l a))
  | .mBgt m n l a => .word (w6 0x19#6 m 0x7#4 n (branchD l a))
  | .mBgeu m n l a => .word (w6 0x19#6 m 0xB#4 n (branchD l a))
  | .mBgtu m n l a => .word (w6 0x19#6 m 0xF#4 n (branchD l a))
  | .mBeqi m imm l a => .word (w6 0x39#6 m 0x1#4 imm (branchD l a))
  | .mBnei m imm l a => .word (w6 0x39#6 m 0x5#4 imm (branchD l a))
  | .mGetcon m d => .word (w6 0x9#6 m 0xF#4 0x3F#6 d)
  | .mPutcon m d => .word (w6 0x1B#6 m 0xF#4 0x3F#6 d)
  | .mTrapa m => .word (w6 0x1B#6 m 0x1#4 0x3F#6 0x3F#6)
  | .mBrk => .word (w6 0x1B#6 0x3F#6 0x5#4 0x3F#6 0x3F#6)
  | .mRte => .word (w6 0x1B#6 0x3F#6 0x3#4 0x3F#6 0x3F#6)
  | .mSleep => .word (w6 0x1B#6 0x3F#6 0x7#4 0x3F#6 0x3F#6)
  | .mSynci => .word (w6 0x1B#6 0x3F#6 0x2#4 0x3F#6 0x3F#6)
  | .mSynco => .word (w6 0x1B#6 0x3F#6 0x6#4 0x3F#6 0x3F#6)
  | .mNop => .word (w6 0x1B#6 0x3F#6 0x0#4 0x3F#6 0x3F#6)
  | .mFabsS m n d => .word (w6 0x6#6 m 0x0#4 n d)
  | .mFabsD m n d => .word (w6 0x6#6 m 0x1#4 n d)
  | .mFnegS m n d => .word (w6 0x6#6 m 0x2#4 n d)
  | .mFnegD m n d => .word (w6 0x6#6 m 0x3#4 n d)
  | .mFaddS m n d => .word (w6 0xD#6 m 0x0#4 n d)
  | .mFaddD m n d => .word (w6 0xD#6 m 0x1#4 n d)
  | .mFsubS m n d => .word (w6 0xD#6 m 0x2#4 n d)
  | .mFsubD m n d => .word (w6 0xD#6 m 0x3#4 n d)
  | .mFdivS m n d => .word (w6 0xD#6 m 0x4#4 n d)
  | .mFdivD m n d => .word (w6 0xD#6 m 0x5#4 n d)
  | .mFmulS m n d => .word (w6 0xD#6 m 0x6#4 n d)
  | .mFmulD m n d => .word (w6 0xD#6 m 0x7#4 n d)
  | .mFmacS m n d => .word (w6 0xD#6 m 0xE#4 n d)
  | .mFsqrtS m n d => .word (w6 0xE#6 m 0x4#4 n d)
  | .mFsqrtD m n d => .word (w6 0xE#6 m 0x5#4 n d)
  | .mFcmpeqS m n d => .word (w6 0xC#6 m 0x8#4 n d)
  | .mFcmpeqD m n d => .word (w6 0xC#6 m 0x9#4 n d)
  | .mFcmpunS m n d => .word (w6 0xC#6 m 0xA#4 n d)
  | .mFcmpunD m n d => .word (w6 0xC#6 m 0xB#4 n d)
  | .mFcmpgtS m n d => .word (w6 0xC#6 m 0xC#4 n d)
  | .mFcmpgtD m n d => .word (w6 0xC#6 m 0xD#4 n d)
  | .mFcmpgeS m n d => .word (w6 0xC#6 m 0xE#4 n d)
  | .mFcmpgeD m n d => .word (w6 0xC#6 m 0xF#4 n d)
  | .mFmovS m n d => .word (w6 0xE#6 m 0x0#4 n d)
  | .mFmovD m n d => .word (w6 0xE#6 m 0x1#4 n d)
  | .mFcnvSd m n d => .word (w6 0xE#6 m 0x6#4 n d)
  | .mFcnvDs m n d => .word (w6 0xE#6 m 0x7#4 n d)
  | .mFtrcSl m n d => .word (w6 0xE#6 m 0x8#4 n d)
  | .mFtrcDq m n d => .word (w6 0xE#6 m 0x9#4 n d)
  | .mFtrcSq m n d => .word (w6 0xE#6 m 0xA#4 n d)
  | .mFtrcDl m n d => .word (w6 0xE#6 m 0xB#4 n d)
  | .mFloatLs m n d => .word (w6 0xE#6 m 0xC#4 n d)
  | .mFloatQd m n d => .word (w6 0xE#6 m 0xD#4 n d)
  | .mFloatLd m n d => .word (w6 0xE#6 m 0xE#4 n d)
  | .mFloatQs m n d => .word (w6 0xE#6 m 0xF#4 n d)
  | .mFmovSl m n d => .word (w6 0xC#6 m 0x0#4 n d)
  | .mFmovDq m n d => .word (w6 0xC#6 m 0x1#4 n d)
  | .mFmovLs m d => .word (w6 0x7#6 m 0x0#4 0x3F#6 d)
  | .mFmovQd m d => .word (w6 0x7#6 m 0x1#4 0x3F#6 d)
  | .mFgetscr d => .word (w6 0x7#6 0x3F#6 0x2#4 0x3F#6 d)
  | .mFputscr m n => .word (w6 0xC#6 m 0x2#4 n 0x3F#6)
  | .mFiprS m n d => .word (w6 0x5#6 m 0x6#4 n d)
  | .mFtrvS m n d => .word (w6 0x5#6 m 0xE#4 n d)
  | .mFldS m imm d => .word (w10 0x25#6 m imm d)
  | .mFldP m imm d => .word (w10 0x26#6 m imm d)
  | .mFldD m imm d => .word (w10 0x27#6 m imm d)
  | .mFstS m imm d => .word (w10 0x2D#6 m imm d)
  | .mFstP m imm d => .word (w10 0x2E#6 m imm d)
  | .mFstD m imm d => .word (w10 0x2F#6 m imm d)
  | .mFldxS m n d => .word (w6 0x10#6 m 0x8#4 n d)
  | .mFldxD m n d => .word (w6 0x10#6 m 0x9#4 n d)
  | .mFldxP m n d => .word (w6 0x10#6 m 0xD#4 n d)
  | .mFstxS m n d => .word (w6 0x18#6 m 0x8#4 n d)
  | .mFstxD m n d => .word (w6 0x18#6 m 0x9#4 n d)
  | .mFstxP m n d => .word (w6 0x18#6 m 0xD#4 n d)

/-! ### Decoding a byte stream -/

/-- Why a byte stream has no instruction at its start. -/
inductive Reject where
  /-- Fewer bytes than the instruction has. -/
  | tooShort
  /-- The pattern matches no row of the mode's table (30 R112). -/
  | unrecognized
  /-- The row is an addition that `COMPACT_EXT` leaves out (30 R117). -/
  | notAdmitted (i : Instr)
  deriving DecidableEq, Repr

/-- Whether `COMPACT_EXT` admits a row (30 R117); every other row is admitted. -/
def admits (x : CompactExt) : Instr → Bool
  | .cDivu _ => x.divu
  | .cMulr _ => x.mulr
  | .cMovi20 _ _ => x.movi20
  | .cMovi20s _ _ => x.movi20s
  | .cMovuaL _ => x.movuaL
  | .cMovuaLInc _ => x.movuaLInc
  | .cMovLLoadDisp12 _ _ _ => x.movLLoadDisp12
  | .cMovLStoreDisp12 _ _ _ => x.movLStoreDisp12
  | .cFmovLoadDisp12 _ _ _ => x.fmovLoadDisp12
  | .cFmovStoreDisp12 _ _ _ => x.fmovStoreDisp12
  | _ => true

/-- Whether a first halfword starts a 4-byte compact instruction (30 R113). -/
def startsFourByte (x : CompactExt) (h : Half) : Bool :=
  (topN h == 0x0#4 && h.extractLsb' 1 3 == 0#3 && (x.movi20 || x.movi20s)) ||
  (topN h == 0x3#4 && zN h == 0x1#4 &&
    (x.movLLoadDisp12 || x.movLStoreDisp12 || x.fmovLoadDisp12 || x.fmovStoreDisp12))

/-- A matched row, if it is admitted. -/
def admitted (x : CompactExt) : Option Instr → Except Reject Instr
  | none => .error .unrecognized
  | some i => if admits x i then .ok i else .error (.notAdmitted i)

/-- Decoding a code: a halfword is a whole compact instruction, a pair a 4-byte one, a word a media one. -/
def decodeCode (x : CompactExt) : Code → Except Reject Instr
  | .half h => if startsFourByte x h then .error .tooShort else admitted x (decodeCompact16 h)
  | .pair h h2 => if startsFourByte x h then admitted x (decodeCompact32 h h2) else .error .unrecognized
  | .word w => admitted x (decodeMedia w)

/-- The size of a code in bytes (30 R113, R118). -/
def Code.size : Code → Nat
  | .half _ => 2
  | .pair _ _ => 4
  | .word _ => 4

/-- The bytes of a code as the hardware stores them, lowest address first (20 R92). -/
def Code.bytes (e : Endian) : Code → List Byte
  | .half h => Machine.bytes16 e h
  | .pair h h2 => Machine.bytes16 e h ++ Machine.bytes16 e h2
  | .word w => Machine.bytes32 e w

/-- Decoding a byte stream in a mode: the instruction and the rest of the stream, or why there is none (30 R110). -/
def decodeBytes (x : CompactExt) (mode : Ism) (e : Endian) : List Byte → Except Reject (Instr × List Byte)
  | b0 :: b1 :: bs =>
    match mode with
    | .compact =>
      let h := Machine.join16 e b0 b1
      if startsFourByte x h then
        match bs with
        | b2 :: b3 :: rest =>
          match decodeCode x (.pair h (Machine.join16 e b2 b3)) with
          | .ok i => .ok (i, rest)
          | .error r => .error r
        | _ => .error .tooShort
      else
        match decodeCode x (.half h) with
        | .ok i => .ok (i, bs)
        | .error r => .error r
    | .media =>
      match bs with
      | b2 :: b3 :: rest =>
        match decodeCode x (.word (Machine.join32 e (Machine.join16 e b0 b1) (Machine.join16 e b2 b3))) with
        | .ok i => .ok (i, rest)
        | .error r => .error r
      | _ => .error .tooShort
  | _ => .error .tooShort

/-- The size of an instruction in bytes (30 R113, R118). -/
def Instr.size (i : Instr) : Nat := (encode i).size

/-! ### A word as spec/opcode_table.json numbers it -/

/-- The code that `nbits` bits of `w` stand for. At most 16 bits are a compact halfword. With 32 bits, a word that the media
table matches with its field constraints met is a media word; otherwise a word whose upper half starts a 4-byte compact
instruction that matches is that pair, and any other is a media word (log 16). -/
def tableCode (nbits w : Nat) : Code :=
  if nbits ≤ 16 then .half (BitVec.ofNat 16 w)
  else
    let v := BitVec.ofNat 32 w
    let h := v.extractLsb' 16 16
    let h2 := v.extractLsb' 0 16
    match decodeMedia v with
    | some i => if i.wf then .word v else tablePair v h h2
    | none => tablePair v h h2
where
  /-- The pair of halfwords where it is a 4-byte compact instruction, the media word otherwise. -/
  tablePair (v : Word) (h h2 : Half) : Code :=
    match decodeCode CompactExt.decided (.pair h h2) with
    | .ok _ => .pair h h2
    | .error _ => .word v

/-- The instruction the decoder reads from a table word, under the decided `COMPACT_EXT`. -/
def decodeTableWord (nbits w : Nat) : Option Instr :=
  match decodeCode CompactExt.decided (tableCode nbits w) with
  | .ok i => some i
  | .error _ => none

end

end Sys2Proof
end

