-- ==== Sys2Proof/Machine/Unwritten.lean ====
section
/-! DEFINITION. Unwritten registers under `RESET_STATE = unwritten` (spec 70 R902): the bits of the physical storage that each
instruction reads and writes, as its rule's pseudocode names them after every slice, and the masks that remember which
bits were written since `Reset()`. Under `RESET_STATE = zero` nothing here has an effect. -/

namespace Sys2Proof.Machine

/-! ### Bits of the physical storage -/

/-- A register of the physical storage (70 R902). SR is CR[0] (10 R35). -/
inductive Store where
  | gr (i : MReg)
  | sr
  | cr (k : MReg)
  | tr (t : TReg)
  | fr (i : MReg)
  | fpscr
  | vbr
  | gbr
  | mach
  | macl
  | pr
  | fpul
  | pc
  | ism
  deriving DecidableEq, Repr

/-- Some bits of one register. -/
structure StoreBits where
  reg : Store
  mask : Quad
  deriving DecidableEq, Repr

/-- The bits `hi:lo`. -/
def bits (hi lo : Nat) : Quad := BitVec.ofNat 64 (2 ^ (hi + 1) - 2 ^ lo)

/-- The written mask of a register. GR[63] is never unwritten (70 R902). -/
def Written.get (w : Written) : Store → Quad
  | .gr i => w.gr.getD i.toNat (BitVec.allOnes 64)
  | .sr => zext64 w.sr
  | .cr k => w.cr.getD (k.toNat - 1) 0
  | .tr t => w.tr.getD t.toNat 0
  | .fr i => zext64 (w.fr.getD i.toNat 0)
  | .fpscr => zext64 w.fpscr
  | .vbr => zext64 w.vbr
  | .gbr => zext64 w.gbr
  | .mach => zext64 w.mach
  | .macl => zext64 w.macl
  | .pr => zext64 w.pr
  | .fpul => zext64 w.fpul
  | .pc => w.pc
  | .ism => w.ism.setWidth 64

/-- Whether all these bits are written. -/
def Written.has (w : Written) (b : StoreBits) : Bool := b.mask &&& ~~~(w.get b.reg) == 0

/-- Whether all bits of a list are written. -/
def Written.hasAll (w : Written) (l : List StoreBits) : Bool := l.all w.has

/-- A write sets the mask bits of the bits it writes (70 R902); GR[63] has none. -/
def Written.mark (w : Written) (b : StoreBits) : Written :=
  match b.reg with
  | .gr i => { w with gr := w.gr.setIfInBounds i.toNat (w.gr.getD i.toNat 0 ||| b.mask) }
  | .sr => { w with sr := w.sr ||| low32 b.mask }
  | .cr k => { w with cr := w.cr.setIfInBounds (k.toNat - 1) (w.cr.getD (k.toNat - 1) 0 ||| b.mask) }
  | .tr t => { w with tr := w.tr.setIfInBounds t.toNat (w.tr.getD t.toNat 0 ||| b.mask) }
  | .fr i => { w with fr := w.fr.setIfInBounds i.toNat (w.fr.getD i.toNat 0 ||| low32 b.mask) }
  | .fpscr => { w with fpscr := w.fpscr ||| low32 b.mask }
  | .vbr => { w with vbr := w.vbr ||| low32 b.mask }
  | .gbr => { w with gbr := w.gbr ||| low32 b.mask }
  | .mach => { w with mach := w.mach ||| low32 b.mask }
  | .macl => { w with macl := w.macl ||| low32 b.mask }
  | .pr => { w with pr := w.pr ||| low32 b.mask }
  | .fpul => { w with fpul := w.fpul ||| low32 b.mask }
  | .pc => { w with pc := w.pc ||| b.mask }
  | .ism => { w with ism := w.ism ||| b.mask.setWidth 1 }

/-- The masks after several writes. -/
def Written.markAll (w : Written) (l : List StoreBits) : Written := l.foldl Written.mark w

/-! ### Operands as bits -/

/-- PC and ISM, which the fetch reads (70 R902). -/
def entryBits : List StoreBits := [⟨.pc, bits 63 0⟩, ⟨.ism, bits 0 0⟩]

/-- The bits `hi:lo` of a compact register. -/
def grcAt (n : CReg) (hi lo : Nat) : StoreBits := ⟨.gr (creg n), bits hi lo⟩

/-- A read of a compact register: its low 32 bits (10 R31). -/
def grc (n : CReg) : StoreBits := grcAt n 31 0

/-- A write of a compact register: all 64 bits (10 R31). -/
def grcOut (n : CReg) : StoreBits := grcAt n 63 0

/-- The bits `hi:lo` of a media register. -/
def gprAt (m : MReg) (hi lo : Nat) : StoreBits := ⟨.gr m, bits hi lo⟩

/-- A whole media register. -/
def gpr (m : MReg) : StoreBits := gprAt m 63 0

/-- The T flag (10 R36). -/
def tBit : StoreBits := ⟨.sr, bits 0 0⟩

/-- The S flag (10 R36). -/
def sBit : StoreBits := ⟨.sr, bits 1 1⟩

/-- The Q flag (10 R36). -/
def qBit : StoreBits := ⟨.sr, bits 8 8⟩

/-- The M flag (10 R36). -/
def mBit : StoreBits := ⟨.sr, bits 9 9⟩

/-- All of SR. -/
def srBits : StoreBits := ⟨.sr, bits 31 0⟩

/-- All of VBR. -/
def vbrBits : StoreBits := ⟨.vbr, bits 31 0⟩

/-- All of FPSCR. -/
def fpscrBits : StoreBits := ⟨.fpscr, bits 31 0⟩

/-- `CR[k]`: SR for k = 0 (10 R35). -/
def control (k : MReg) : StoreBits := if k = 0 then srBits else ⟨.cr k, bits 63 0⟩

/-- `TR[a]`. -/
def target (a : TReg) : StoreBits := ⟨.tr a, bits 63 0⟩

/-- A read of GBR. -/
def State.gbrBits (s : State) : StoreBits :=
  match s.params.storage with
  | .aliased => gprAt 16 31 0
  | .separate => ⟨.gbr, bits 31 0⟩

/-- A write of GBR: all of GR[16] under `aliased` (10 R38). -/
def State.gbrOut (s : State) : StoreBits :=
  match s.params.storage with
  | .aliased => gpr 16
  | .separate => ⟨.gbr, bits 31 0⟩

/-- MACL, read or written (10 R38). -/
def State.maclBits (s : State) : StoreBits :=
  match s.params.storage with
  | .aliased => gprAt 17 31 0
  | .separate => ⟨.macl, bits 31 0⟩

/-- MACH, read or written (10 R38). -/
def State.machBits (s : State) : StoreBits :=
  match s.params.storage with
  | .aliased => gprAt 17 63 32
  | .separate => ⟨.mach, bits 31 0⟩

/-- The accumulator. -/
def State.macBits (s : State) : List StoreBits := [s.machBits, s.maclBits]

/-- A read of PR, the procedure register. -/
def State.prBits (s : State) : StoreBits :=
  match s.params.storage with
  | .aliased => gprAt 18 31 0
  | .separate => ⟨.pr, bits 31 0⟩

/-- A write of PR, the procedure register: all of GR[18] under `aliased` (10 R38). -/
def State.prOut (s : State) : StoreBits :=
  match s.params.storage with
  | .aliased => gpr 18
  | .separate => ⟨.pr, bits 31 0⟩

/-- One single-precision register. -/
def single (i : MReg) : StoreBits := ⟨.fr i, bits 31 0⟩

/-- FPUL, read or written (10 R51). -/
def State.fpulBits (s : State) : StoreBits :=
  match s.params.storage with
  | .aliased => single 32
  | .separate => ⟨.fpul, bits 31 0⟩

/-- `n` single-precision registers from `i`. -/
def singlesFrom (i : MReg) (n : Nat) : List StoreBits := (List.range n).map fun k => single (i + BitVec.ofNat 6 k)

/-- A pair of single-precision registers. -/
def pairBits (i : MReg) : List StoreBits := [single i, single (i + 1)]

/-- `FRn` in the current bank. -/
def State.cfBits (s : State) (n : CReg) : StoreBits := single (s.bank n)

/-- `FRn` or `DRn`, as FPSCR.PR says (10 R53). -/
def State.cfpBits (s : State) (n : CReg) : List StoreBits := if s.fpPR then pairBits (s.bank n) else [s.cfBits n]

/-- The FMOV view of field `n`, as FPSCR.SZ says (10 R52). -/
def State.fmovBits (s : State) (n : CReg) : List StoreBits := if s.fpSZ then pairBits (s.fmovBase n) else [s.cfBits n]

/-- The FV that a 2-bit field names. -/
def State.cfvBits (s : State) (n : BitVec 2) : List StoreBits := singlesFrom (s.bank (fvField n 0)) 4

/-! ### What an instruction reads and writes -/

/-- The bits an instruction reads, and the bits it writes when it completes normally. PC is left out: the fetch has read it, so
it is written already. -/
structure Access where
  reads : List StoreBits
  writes : List StoreBits
  deriving DecidableEq, Repr

/-- A compact instruction that writes one register. -/
def outR (reads : List StoreBits) (n : CReg) : Access := ⟨reads, [grcOut n]⟩

/-- A compact instruction that writes T. -/
def outT (reads : List StoreBits) : Access := ⟨reads, [tBit]⟩

/-- A compact instruction that writes one register and T. -/
def outRT (reads : List StoreBits) (n : CReg) : Access := ⟨reads, [grcOut n, tBit]⟩

/-- A media instruction that writes one general register. -/
def outG (reads : List StoreBits) (d : MReg) : Access := ⟨reads, [gpr d]⟩

/-- An instruction whose own check of its fields or of the mode fails reads no operand: it is reported before (60 R854). -/
def onlyIf (ok : Bool) (a : Access) : Access := if ok then a else ⟨[], []⟩

/-- A compact FP instruction reads FPSCR.PR, SZ and FR at its decode (70 R902). DEDUCED (log 20): every row of spec 43 is one. -/
def withMode (a : Access) : Access := { a with reads := ⟨.fpscr, bits 21 19⟩ :: a.reads }

/-- What a dynamic shift reads of Rn beside the count: nothing but `whenAll` where the count is −32, all of it otherwise (40
R258, R261). -/
def State.shiftReads (s : State) (m n : CReg) (whenAll : List StoreBits) : List StoreBits :=
  if (s.r m).msb && (s.r m).extractLsb' 0 5 == 0 then whenAll else [grc n]

/-- The words of Rm that the four 2-bit numbers in the low byte of Rn select (45 R604). -/
def State.permReads (s : State) (m n : MReg) : List StoreBits :=
  (List.range 4).map fun j =>
    let k := ((s.g n).extractLsb' (2 * j) 2).toNat
    gprAt m (16 * k + 15) (16 * k)

/-- The bytes of the register that a misaligned store writes to memory (46 R659). -/
def planReads (d : MReg) (plan : List (Quad × Nat)) : List StoreBits := plan.map fun p => gprAt d (8 * p.2 + 7) (8 * p.2)

/-- A conditional branch reads its target register only when it is taken (47 R689). -/
def takenReads (taken : Bool) (a : TReg) : List StoreBits := if taken then [target a] else []

/-- The reads and writes of each instruction, row by row from its rule's pseudocode. -/
def access (i : Instr) (s : State) : Access :=
  match i with
  -- spec 40_compact_alu.md
  | .cAdd m n => outR [grc m, grc n] n
  | .cAddImm _ n => outR [grc n] n
  | .cAddc m n => outRT [grc m, grc n, tBit] n
  | .cAddv m n => outRT [grc m, grc n] n
  | .cCmpEqImm _ => outT [grc 0]
  | .cCmpEq m n => outT [grc m, grc n]
  | .cCmpHs m n => outT [grc m, grc n]
  | .cCmpGe m n => outT [grc m, grc n]
  | .cCmpHi m n => outT [grc m, grc n]
  | .cCmpGt m n => outT [grc m, grc n]
  | .cCmpPz n => outT [grc n]
  | .cCmpPl n => outT [grc n]
  | .cCmpStr m n => outT [grc m, grc n]
  | .cDiv0s m n => ⟨[grcAt m 31 31, grcAt n 31 31], [qBit, mBit, tBit]⟩
  | .cDiv0u => ⟨[], [qBit, mBit, tBit]⟩
  | .cDiv1 m n => ⟨[grc m, grc n, qBit, mBit, tBit], [grcOut n, qBit, tBit]⟩
  | .cDivu n => outR [grc 0, grc n] n
  | .cDmulsL m n => ⟨[grc m, grc n], s.macBits⟩
  | .cDmuluL m n => ⟨[grc m, grc n], s.macBits⟩
  | .cDt n => outRT [grc n] n
  | .cExtsB m n => outR [grcAt m 7 0] n
  | .cExtsW m n => outR [grcAt m 15 0] n
  | .cExtuB m n => outR [grcAt m 7 0] n
  | .cExtuW m n => outR [grcAt m 15 0] n
  | .cMacL m n => ⟨[grc m, grc n, sBit] ++ s.macBits, [grcOut m, grcOut n] ++ s.macBits⟩
  | .cMacW m n => ⟨[grc m, grc n, sBit] ++ (if s.flagS then [s.maclBits] else s.macBits), [grcOut m, grcOut n] ++ s.macBits⟩
  | .cMulL m n => ⟨[grc m, grc n], [s.maclBits]⟩
  | .cMulr n => outR [grc 0, grc n] n
  | .cMulsW m n => ⟨[grcAt m 15 0, grcAt n 15 0], [s.maclBits]⟩
  | .cMuluW m n => ⟨[grcAt m 15 0, grcAt n 15 0], [s.maclBits]⟩
  | .cNeg m n => outR [grc m] n
  | .cNegc m n => outRT [grc m, tBit] n
  | .cSub m n => outR [grc m, grc n] n
  | .cSubc m n => outRT [grc m, grc n, tBit] n
  | .cSubv m n => outRT [grc m, grc n] n
  | .cAnd m n => outR [grc m, grc n] n
  | .cAndImm _ => outR [grc 0] 0
  | .cAndB _ => ⟨[s.gbrBits, grc 0], []⟩
  | .cNot m n => outR [grc m] n
  | .cOr m n => outR [grc m, grc n] n
  | .cOrImm _ => outR [grc 0] 0
  | .cOrB _ => ⟨[s.gbrBits, grc 0], []⟩
  | .cTasB n => outT [grc n]
  | .cTst m n => outT [grc m, grc n]
  | .cTstImm _ => outT [grc 0]
  | .cTstB _ => outT [s.gbrBits, grc 0]
  | .cXor m n => outR [grc m, grc n] n
  | .cXorImm _ => outR [grc 0] 0
  | .cXorB _ => ⟨[s.gbrBits, grc 0], []⟩
  | .cRotl n => outRT [grc n] n
  | .cRotr n => outRT [grc n] n
  | .cRotcl n => outRT [grc n, tBit] n
  | .cRotcr n => outRT [grc n, tBit] n
  | .cShad m n => outR (grcAt m 31 31 :: grcAt m 4 0 :: s.shiftReads m n [grcAt n 31 31]) n
  | .cShal n => outRT [grc n] n
  | .cShar n => outRT [grc n] n
  | .cShld m n => outR (grcAt m 31 31 :: grcAt m 4 0 :: s.shiftReads m n []) n
  | .cShll n => outRT [grc n] n
  | .cShll2 n => outR [grc n] n
  | .cShll8 n => outR [grc n] n
  | .cShll16 n => outR [grc n] n
  | .cShlr n => outRT [grc n] n
  | .cShlr2 n => outR [grc n] n
  | .cShlr8 n => outR [grc n] n
  | .cShlr16 n => outR [grc n] n
  -- spec 41_compact_data.md
  | .cMov m n => outR [grc m] n
  | .cMovImm _ n => outR [] n
  | .cMovi20 _ n => outR [] n
  | .cMovi20s _ n => outR [] n
  | .cMova _ => outR [] 0
  | .cMovWLoadPc _ n => outR [] n
  | .cMovLLoadPc _ n => outR [] n
  | .cMovBLoad m n => outR [grc m] n
  | .cMovWLoad m n => outR [grc m] n
  | .cMovLLoad m n => outR [grc m] n
  | .cMovBLoadInc m n => ⟨[grc m], [grcOut m, grcOut n]⟩
  | .cMovWLoadInc m n => ⟨[grc m], [grcOut m, grcOut n]⟩
  | .cMovLLoadInc m n => ⟨[grc m], [grcOut m, grcOut n]⟩
  | .cMovBLoadIdx m n => outR [grc 0, grc m] n
  | .cMovWLoadIdx m n => outR [grc 0, grc m] n
  | .cMovLLoadIdx m n => outR [grc 0, grc m] n
  | .cMovBLoadDisp m _ => outR [grc m] 0
  | .cMovWLoadDisp m _ => outR [grc m] 0
  | .cMovLLoadDisp m _ n => outR [grc m] n
  | .cMovLLoadDisp12 m disp n => onlyIf (!disp.msb) (outR [grc m] n)
  | .cMovBLoadGbr _ => outR [s.gbrBits] 0
  | .cMovWLoadGbr _ => outR [s.gbrBits] 0
  | .cMovLLoadGbr _ => outR [s.gbrBits] 0
  | .cMovuaL m => outR [grc m] 0
  | .cMovuaLInc m => ⟨[grc m], [grcOut m, grcOut 0]⟩
  | .cMovBStore m n => ⟨[grc n, grcAt m 7 0], []⟩
  | .cMovWStore m n => ⟨[grc n, grcAt m 15 0], []⟩
  | .cMovLStore m n => ⟨[grc n, grc m], []⟩
  | .cMovBStoreDec m n => ⟨[grc n, grcAt m 7 0], [grcOut n]⟩
  | .cMovWStoreDec m n => ⟨[grc n, grcAt m 15 0], [grcOut n]⟩
  | .cMovLStoreDec m n => ⟨[grc n, grc m], [grcOut n]⟩
  | .cMovBStoreIdx m n => ⟨[grc 0, grc n, grcAt m 7 0], []⟩
  | .cMovWStoreIdx m n => ⟨[grc 0, grc n, grcAt m 15 0], []⟩
  | .cMovLStoreIdx m n => ⟨[grc 0, grc n, grc m], []⟩
  | .cMovBStoreDisp _ n => ⟨[grc n, grcAt 0 7 0], []⟩
  | .cMovWStoreDisp _ n => ⟨[grc n, grcAt 0 15 0], []⟩
  | .cMovLStoreDisp m _ n => ⟨[grc n, grc m], []⟩
  | .cMovLStoreDisp12 m disp n => onlyIf (!disp.msb) ⟨[grc n, grc m], []⟩
  | .cMovBStoreGbr _ => ⟨[s.gbrBits, grcAt 0 7 0], []⟩
  | .cMovWStoreGbr _ => ⟨[s.gbrBits, grcAt 0 15 0], []⟩
  | .cMovLStoreGbr _ => ⟨[s.gbrBits, grc 0], []⟩
  | .cMovcaL n => ⟨[grc n, grc 0], []⟩
  | .cMovcoL _ => ⟨[], []⟩
  | .cMovliL _ => ⟨[], []⟩
  | .cMovt n => outR [tBit] n
  | .cSwapB m n => outR [grc m] n
  | .cSwapW m n => outR [grc m] n
  | .cXtrct m n => outR [grcAt m 15 0, grcAt n 31 16] n
  -- spec 42_compact_branch_system.md
  | .cBf _ => ⟨[tBit], []⟩
  | .cBfS _ => ⟨[tBit], []⟩
  | .cBt _ => ⟨[tBit], []⟩
  | .cBtS _ => ⟨[tBit], []⟩
  | .cBra _ => ⟨[], []⟩
  | .cBraf m => ⟨[grc m], []⟩
  | .cBsr _ => ⟨[], [s.prOut]⟩
  | .cBsrf m => ⟨[grc m], [s.prOut]⟩
  | .cJmp m => ⟨[grc m], []⟩
  | .cJsr m => ⟨[grc m], [s.prOut]⟩
  | .cRts => ⟨[s.prBits], []⟩
  | .cClrmac => ⟨[], s.macBits⟩
  | .cClrs => ⟨[], [sBit]⟩
  | .cClrt => ⟨[], [tBit]⟩
  | .cSets => ⟨[], [sBit]⟩
  | .cSett => ⟨[], [tBit]⟩
  | .cNop => ⟨[], []⟩
  | .cLdcSr m => ⟨[grc m], [srBits]⟩
  | .cLdcGbr m => ⟨[grc m], [s.gbrOut]⟩
  | .cLdcVbr m => ⟨[grc m], [vbrBits]⟩
  | .cLdcLGbr m => ⟨[grc m], [grcOut m, s.gbrOut]⟩
  | .cLdcLVbr m => ⟨[grc m], [grcOut m, vbrBits]⟩
  | .cLdsMach m => ⟨[grc m], [s.machBits]⟩
  | .cLdsMacl m => ⟨[grc m], [s.maclBits]⟩
  | .cLdsPr m => ⟨[grc m], [s.prOut]⟩
  | .cLdsLMach m => ⟨[grc m], [grcOut m, s.machBits]⟩
  | .cLdsLMacl m => ⟨[grc m], [grcOut m, s.maclBits]⟩
  | .cLdsLPr m => ⟨[grc m], [grcOut m, s.prOut]⟩
  | .cStcGbr n => outR [s.gbrBits] n
  | .cStcVbr n => outR [vbrBits] n
  | .cStcLGbr n => ⟨[grc n, s.gbrBits], [grcOut n]⟩
  | .cStcLVbr n => ⟨[grc n, vbrBits], [grcOut n]⟩
  | .cStsMach n => outR [s.machBits] n
  | .cStsMacl n => outR [s.maclBits] n
  | .cStsPr n => outR [s.prBits] n
  | .cStsLMach n => ⟨[grc n, s.machBits], [grcOut n]⟩
  | .cStsLMacl n => ⟨[grc n, s.maclBits], [grcOut n]⟩
  | .cStsLPr n => ⟨[grc n, s.prBits], [grcOut n]⟩
  | .cTrapa _ => ⟨[], []⟩
  | .cBrk => ⟨[], []⟩
  | .cPref _ => ⟨[], []⟩
  | .cOcbi _ => ⟨[], []⟩
  | .cOcbp _ => ⟨[], []⟩
  | .cOcbwb _ => ⟨[], []⟩
  -- spec 43_compact_fpu.md
  | .cFabs n => withMode (onlyIf (!s.fpPR || evenC n) ⟨s.cfpBits n, s.cfpBits n⟩)
  | .cFneg n => withMode (onlyIf (!s.fpPR || evenC n) ⟨s.cfpBits n, s.cfpBits n⟩)
  | .cFadd m n => withMode (onlyIf (!s.fpPR || evenC n && evenC m) ⟨s.cfpBits n ++ s.cfpBits m, s.cfpBits n⟩)
  | .cFsub m n => withMode (onlyIf (!s.fpPR || evenC n && evenC m) ⟨s.cfpBits n ++ s.cfpBits m, s.cfpBits n⟩)
  | .cFmul m n => withMode (onlyIf (!s.fpPR || evenC n && evenC m) ⟨s.cfpBits n ++ s.cfpBits m, s.cfpBits n⟩)
  | .cFdiv m n => withMode (onlyIf (!s.fpPR || evenC n && evenC m) ⟨s.cfpBits n ++ s.cfpBits m, s.cfpBits n⟩)
  | .cFsqrt n => withMode (onlyIf (!s.fpPR || evenC n) ⟨s.cfpBits n, s.cfpBits n⟩)
  | .cFcmpEq m n => withMode (onlyIf (!s.fpPR || evenC n && evenC m) (outT (s.cfpBits n ++ s.cfpBits m)))
  | .cFcmpGt m n => withMode (onlyIf (!s.fpPR || evenC n && evenC m) (outT (s.cfpBits n ++ s.cfpBits m)))
  | .cFmac m n => withMode (onlyIf (!s.fpPR) ⟨[s.cfBits 0, s.cfBits m, s.cfBits n], [s.cfBits n]⟩)
  | .cFldi0 n => withMode (onlyIf (!s.fpPR) ⟨[], [s.cfBits n]⟩)
  | .cFldi1 n => withMode (onlyIf (!s.fpPR) ⟨[], [s.cfBits n]⟩)
  | .cFlds m => withMode ⟨[s.cfBits m], [s.fpulBits]⟩
  | .cFsts n => withMode ⟨[s.fpulBits], [s.cfBits n]⟩
  | .cFloat n => withMode (onlyIf (!s.fpPR || evenC n) ⟨[s.fpulBits], s.cfpBits n⟩)
  | .cFtrc m => withMode (onlyIf (!s.fpPR || evenC m) ⟨s.cfpBits m, [s.fpulBits]⟩)
  | .cFcnvsd n => withMode (onlyIf s.fpPR ⟨[s.fpulBits], pairBits (s.bank (drField n))⟩)
  | .cFcnvds m => withMode (onlyIf s.fpPR ⟨pairBits (s.bank (drField m)), [s.fpulBits]⟩)
  | .cFipr m n => withMode (onlyIf (!s.fpPR) ⟨s.cfvBits m ++ s.cfvBits n, [s.cfBits (fvField n 3)]⟩)
  | .cFtrv n => withMode (onlyIf (!s.fpPR) ⟨s.cfvBits n ++ singlesFrom (s.otherBank 0) 16, s.cfvBits n⟩)
  | .cFrchg => withMode (onlyIf (!s.fpPR) ⟨[], [⟨.fpscr, bits 21 21⟩]⟩)
  | .cFschg => withMode (onlyIf (!s.fpPR) ⟨[], [⟨.fpscr, bits 20 20⟩]⟩)
  | .cFmov m n => withMode ⟨s.fmovBits m, s.fmovBits n⟩
  | .cFmovLoad m n => withMode ⟨[grc m], s.fmovBits n⟩
  | .cFmovLoadInc m n => withMode ⟨[grc m], grcOut m :: s.fmovBits n⟩
  | .cFmovLoadIdx m n => withMode ⟨[grc 0, grc m], s.fmovBits n⟩
  | .cFmovLoadDisp12 m disp n => withMode (onlyIf (!disp.msb) ⟨[grc m], pairBits (s.bank (drField n))⟩)
  | .cFmovStore m n => withMode ⟨grc n :: s.fmovBits m, []⟩
  | .cFmovStoreDec m n => withMode ⟨grc n :: s.fmovBits m, [grcOut n]⟩
  | .cFmovStoreIdx m n => withMode ⟨grc 0 :: grc n :: s.fmovBits m, []⟩
  | .cFmovStoreDisp12 m disp n => withMode (onlyIf (!disp.msb) ⟨grc n :: pairBits (s.bank (drField m)), []⟩)
  | .cLdsFpscr m => withMode ⟨[grcAt m 21 0], [fpscrBits]⟩
  | .cLdsFpul m => withMode ⟨[grc m], [s.fpulBits]⟩
  | .cLdsLFpscr m => withMode ⟨[grc m], [grcOut m, fpscrBits]⟩
  | .cLdsLFpul m => withMode ⟨[grc m], [grcOut m, s.fpulBits]⟩
  | .cStsFpscr n => withMode (outR [fpscrBits] n)
  | .cStsFpul n => withMode (outR [s.fpulBits] n)
  | .cStsLFpscr n => withMode ⟨[grc n, fpscrBits], [grcOut n]⟩
  | .cStsLFpul n => withMode ⟨[grc n, s.fpulBits], [grcOut n]⟩
  -- spec 44_media_alu.md
  | .mAdd m n d => outG [gpr m, gpr n] d
  | .mAddL m n d => outG [gprAt m 31 0, gprAt n 31 0] d
  | .mAddi m _ d => outG [gpr m] d
  | .mAddiL m _ d => outG [gprAt m 31 0] d
  | .mAddzL m n d => outG [gprAt m 31 0, gprAt n 31 0] d
  | .mSub m n d => outG [gpr m, gpr n] d
  | .mSubL m n d => outG [gprAt m 31 0, gprAt n 31 0] d
  | .mAnd m n d => outG [gpr m, gpr n] d
  | .mAndc m n d => outG [gpr m, gpr n] d
  | .mAndi m _ d => outG [gpr m] d
  | .mOr m n d => outG [gpr m, gpr n] d
  | .mOri m _ d => outG [gpr m] d
  | .mXor m n d => outG [gpr m, gpr n] d
  | .mXori m _ d => outG [gpr m] d
  | .mCmpeq m n d => outG [gpr m, gpr n] d
  | .mCmpgt m n d => outG [gpr m, gpr n] d
  | .mCmpgtu m n d => outG [gpr m, gpr n] d
  | .mCmveq m n d => if s.g m = 0 then outG [gpr m, gpr n] d else ⟨[gpr m], []⟩
  | .mCmvne m n d => if s.g m = 0 then ⟨[gpr m], []⟩ else outG [gpr m, gpr n] d
  | .mNsb m d => outG [gpr m] d
  | .mByterev m d => outG [gpr m] d
  | .mMuluL m n d => outG [gprAt m 31 0, gprAt n 31 0] d
  | .mMulsL m n d => outG [gprAt m 31 0, gprAt n 31 0] d
  | .mShlld m n d => outG [gpr m, gprAt n 5 0] d
  | .mShlldL m n d => outG [gprAt m 31 0, gprAt n 4 0] d
  | .mShlrd m n d => outG [gpr m, gprAt n 5 0] d
  | .mShlrdL m n d => outG [gprAt m 31 0, gprAt n 4 0] d
  | .mShard m n d => outG [gpr m, gprAt n 5 0] d
  | .mShardL m n d => outG [gprAt m 31 0, gprAt n 4 0] d
  | .mShlli m _ d => outG [gpr m] d
  | .mShlliL m _ d => outG [gprAt m 31 0] d
  | .mShlri m _ d => outG [gpr m] d
  | .mShlriL m _ d => outG [gprAt m 31 0] d
  | .mShari m _ d => outG [gpr m] d
  | .mShariL m _ d => outG [gprAt m 31 0] d
  | .mMovi _ d => outG [] d
  | .mShori _ d => outG [gpr d] d
  -- spec 45_media_packed.md
  | .mMaddW m n d => outG [gpr m, gpr n] d
  | .mMaddL m n d => outG [gpr m, gpr n] d
  | .mMaddsUb m n d => outG [gpr m, gpr n] d
  | .mMaddsW m n d => outG [gpr m, gpr n] d
  | .mMaddsL m n d => outG [gpr m, gpr n] d
  | .mMsubW m n d => outG [gpr m, gpr n] d
  | .mMsubL m n d => outG [gpr m, gpr n] d
  | .mMsubsUb m n d => outG [gpr m, gpr n] d
  | .mMsubsW m n d => outG [gpr m, gpr n] d
  | .mMsubsL m n d => outG [gpr m, gpr n] d
  | .mMabsW m d => outG [gpr m] d
  | .mMabsL m d => outG [gpr m] d
  | .mMcmpeqB m n d => outG [gpr m, gpr n] d
  | .mMcmpeqW m n d => outG [gpr m, gpr n] d
  | .mMcmpeqL m n d => outG [gpr m, gpr n] d
  | .mMcmpgtUb m n d => outG [gpr m, gpr n] d
  | .mMcmpgtW m n d => outG [gpr m, gpr n] d
  | .mMcmpgtL m n d => outG [gpr m, gpr n] d
  | .mMcmv m n d => outG [gpr m, gpr n, gpr d] d
  | .mMcnvsLw m n d => outG [gpr m, gpr n] d
  | .mMcnvsWb m n d => outG [gpr m, gpr n] d
  | .mMcnvsWub m n d => outG [gpr m, gpr n] d
  | .mMextr1 m n d => outG [gpr m, gpr n] d
  | .mMextr2 m n d => outG [gpr m, gpr n] d
  | .mMextr3 m n d => outG [gpr m, gpr n] d
  | .mMextr4 m n d => outG [gpr m, gpr n] d
  | .mMextr5 m n d => outG [gpr m, gpr n] d
  | .mMextr6 m n d => outG [gpr m, gpr n] d
  | .mMextr7 m n d => outG [gpr m, gpr n] d
  | .mMmacfxWl m n d => outG [gprAt m 31 0, gprAt n 31 0, gpr d] d
  | .mMmacnfxWl m n d => outG [gprAt m 31 0, gprAt n 31 0, gpr d] d
  | .mMmulW m n d => outG [gpr m, gpr n] d
  | .mMmulL m n d => outG [gpr m, gpr n] d
  | .mMmulfxW m n d => outG [gpr m, gpr n] d
  | .mMmulfxL m n d => outG [gpr m, gpr n] d
  | .mMmulfxrpW m n d => outG [gpr m, gpr n] d
  | .mMmulhiWl m n d => outG [gprAt m 63 32, gprAt n 63 32] d
  | .mMmulloWl m n d => outG [gprAt m 31 0, gprAt n 31 0] d
  | .mMmulsumWq m n d => outG [gpr m, gpr n, gpr d] d
  | .mMpermW m n d => outG (gprAt n 7 0 :: s.permReads m n) d
  | .mMsadUbq m n d => outG [gpr m, gpr n, gpr d] d
  | .mMshaldsW m n d => outG [gpr m, gprAt n 3 0] d
  | .mMshaldsL m n d => outG [gpr m, gprAt n 4 0] d
  | .mMshardW m n d => outG [gpr m, gprAt n 3 0] d
  | .mMshardL m n d => outG [gpr m, gprAt n 4 0] d
  | .mMshardsQ m n d => outG [gpr m, gprAt n 5 0] d
  | .mMshlldW m n d => outG [gpr m, gprAt n 3 0] d
  | .mMshlldL m n d => outG [gpr m, gprAt n 4 0] d
  | .mMshlrdW m n d => outG [gpr m, gprAt n 3 0] d
  | .mMshlrdL m n d => outG [gpr m, gprAt n 4 0] d
  | .mMshfloB m n d => outG [gprAt m 31 0, gprAt n 31 0] d
  | .mMshfloW m n d => outG [gprAt m 31 0, gprAt n 31 0] d
  | .mMshfloL m n d => outG [gprAt m 31 0, gprAt n 31 0] d
  | .mMshfhiB m n d => outG [gprAt m 63 32, gprAt n 63 32] d
  | .mMshfhiW m n d => outG [gprAt m 63 32, gprAt n 63 32] d
  | .mMshfhiL m n d => outG [gprAt m 63 32, gprAt n 63 32] d
  -- spec 46_media_mem.md
  | .mLdB m _ d => outG [gpr m] d
  | .mLdW m _ d => outG [gpr m] d
  | .mLdL m _ d => outG [gpr m] d
  | .mLdQ m _ d => outG [gpr m] d
  | .mLdUb m _ d => outG [gpr m] d
  | .mLdUw m _ d => outG [gpr m] d
  | .mStB m _ d => ⟨[gpr m, gprAt d 7 0], []⟩
  | .mStW m _ d => ⟨[gpr m, gprAt d 15 0], []⟩
  | .mStL m _ d => ⟨[gpr m, gprAt d 31 0], []⟩
  | .mStQ m _ d => ⟨[gpr m, gpr d], []⟩
  | .mLdxB m n d => outG [gpr m, gpr n] d
  | .mLdxW m n d => outG [gpr m, gpr n] d
  | .mLdxL m n d => outG [gpr m, gpr n] d
  | .mLdxQ m n d => outG [gpr m, gpr n] d
  | .mLdxUb m n d => outG [gpr m, gpr n] d
  | .mLdxUw m n d => outG [gpr m, gpr n] d
  | .mStxB m n d => ⟨[gpr m, gpr n, gprAt d 7 0], []⟩
  | .mStxW m n d => ⟨[gpr m, gpr n, gprAt d 15 0], []⟩
  | .mStxL m n d => ⟨[gpr m, gpr n, gprAt d 31 0], []⟩
  | .mStxQ m n d => ⟨[gpr m, gpr n, gpr d], []⟩
  | .mLdloL m _ d => outG [gpr m] d
  | .mLdloQ m _ d => outG [gpr m] d
  | .mLdhiL m _ d => outG [gpr m] d
  | .mLdhiQ m _ d => outG [gpr m] d
  | .mStloL m imm d => ⟨gpr m :: planReads d (loPlan s.endian (s.eaM m (sx64 imm 0)) 4), []⟩
  | .mStloQ m imm d => ⟨gpr m :: planReads d (loPlan s.endian (s.eaM m (sx64 imm 0)) 8), []⟩
  | .mSthiL m imm d => ⟨gpr m :: planReads d (hiPlan s.endian (s.eaM m (sx64 imm 0)) 4), []⟩
  | .mSthiQ m imm d => ⟨gpr m :: planReads d (hiPlan s.endian (s.eaM m (sx64 imm 0)) 8), []⟩
  | .mSwapQ m n d => outG [gpr m, gpr n, gpr d] d
  | .mPrefi _ _ => ⟨[], []⟩
  | .mAlloco _ _ => ⟨[], []⟩
  | .mIcbi _ _ => ⟨[], []⟩
  | .mOcbp _ _ => ⟨[], []⟩
  | .mOcbi _ _ => ⟨[], []⟩
  | .mOcbwb _ _ => ⟨[], []⟩
  | .mGetcfg _ _ _ => ⟨[], []⟩
  | .mPutcfg _ _ _ => ⟨[], []⟩
  -- spec 47_media_branch_system.md
  | .mPta _ _ a => ⟨[], [target a]⟩
  | .mPtb _ _ a => ⟨[], [target a]⟩
  | .mPtabs n _ a => ⟨[gpr n], [target a]⟩
  | .mPtrel n _ a => ⟨[gpr n], [target a]⟩
  | .mGettr b d => outG [target b] d
  | .mBlink b d => outG [target b] d
  | .mBeq m n _ a => ⟨[gpr m, gpr n] ++ takenReads (s.g m = s.g n) a, []⟩
  | .mBge m n _ a => ⟨[gpr m, gpr n] ++ takenReads ((s.g n).sle (s.g m)) a, []⟩
  | .mBne m n _ a => ⟨[gpr m, gpr n] ++ takenReads (s.g m ≠ s.g n) a, []⟩
  | .mBgt m n _ a => ⟨[gpr m, gpr n] ++ takenReads ((s.g n).slt (s.g m)) a, []⟩
  | .mBgeu m n _ a => ⟨[gpr m, gpr n] ++ takenReads (s.g n ≤ s.g m) a, []⟩
  | .mBgtu m n _ a => ⟨[gpr m, gpr n] ++ takenReads (s.g n < s.g m) a, []⟩
  | .mBeqi m imm _ a => ⟨gpr m :: takenReads (s.g m = sx64 imm 0) a, []⟩
  | .mBnei m imm _ a => ⟨gpr m :: takenReads (s.g m ≠ sx64 imm 0) a, []⟩
  | .mGetcon m d => outG [control m] d
  | .mPutcon m d => if d = 0 then ⟨[gprAt m 31 0], [srBits]⟩ else ⟨[gpr m], [control d]⟩
  | .mTrapa m => ⟨[gpr m], []⟩
  | .mBrk => ⟨[], []⟩
  | .mRte => ⟨[], []⟩
  | .mSleep => ⟨[], []⟩
  | .mSynci => ⟨[], []⟩
  | .mSynco => ⟨[], []⟩
  | .mNop => ⟨[], []⟩
  -- spec 48_fpu.md
  | .mFabsS m n d => onlyIf (Instr.mFabsS m n d).wf ⟨[single m], [single d]⟩
  | .mFabsD m n d => onlyIf (Instr.mFabsD m n d).wf ⟨pairBits m, pairBits d⟩
  | .mFnegS m n d => onlyIf (Instr.mFnegS m n d).wf ⟨[single m], [single d]⟩
  | .mFnegD m n d => onlyIf (Instr.mFnegD m n d).wf ⟨pairBits m, pairBits d⟩
  | .mFaddS m n d => ⟨[single m, single n], [single d]⟩
  | .mFaddD m n d => onlyIf (Instr.mFaddD m n d).wf ⟨pairBits m ++ pairBits n, pairBits d⟩
  | .mFsubS m n d => ⟨[single m, single n], [single d]⟩
  | .mFsubD m n d => onlyIf (Instr.mFsubD m n d).wf ⟨pairBits m ++ pairBits n, pairBits d⟩
  | .mFdivS m n d => ⟨[single m, single n], [single d]⟩
  | .mFdivD m n d => onlyIf (Instr.mFdivD m n d).wf ⟨pairBits m ++ pairBits n, pairBits d⟩
  | .mFmulS m n d => ⟨[single m, single n], [single d]⟩
  | .mFmulD m n d => onlyIf (Instr.mFmulD m n d).wf ⟨pairBits m ++ pairBits n, pairBits d⟩
  | .mFmacS m n d => ⟨[single m, single n, single d], [single d]⟩
  | .mFsqrtS m n d => onlyIf (Instr.mFsqrtS m n d).wf ⟨[single m], [single d]⟩
  | .mFsqrtD m n d => onlyIf (Instr.mFsqrtD m n d).wf ⟨pairBits m, pairBits d⟩
  | .mFcmpeqS m n d => outG [single m, single n] d
  | .mFcmpeqD m n d => onlyIf (Instr.mFcmpeqD m n d).wf (outG (pairBits m ++ pairBits n) d)
  | .mFcmpunS m n d => outG [single m, single n] d
  | .mFcmpunD m n d => onlyIf (Instr.mFcmpunD m n d).wf (outG (pairBits m ++ pairBits n) d)
  | .mFcmpgtS m n d => outG [single m, single n] d
  | .mFcmpgtD m n d => onlyIf (Instr.mFcmpgtD m n d).wf (outG (pairBits m ++ pairBits n) d)
  | .mFcmpgeS m n d => outG [single m, single n] d
  | .mFcmpgeD m n d => onlyIf (Instr.mFcmpgeD m n d).wf (outG (pairBits m ++ pairBits n) d)
  | .mFmovS m n d => onlyIf (Instr.mFmovS m n d).wf ⟨[single m], [single d]⟩
  | .mFmovD m n d => onlyIf (Instr.mFmovD m n d).wf ⟨pairBits m, pairBits d⟩
  | .mFcnvSd m n d => onlyIf (Instr.mFcnvSd m n d).wf ⟨[single m], pairBits d⟩
  | .mFcnvDs m n d => onlyIf (Instr.mFcnvDs m n d).wf ⟨pairBits m, [single d]⟩
  | .mFtrcSl m n d => onlyIf (Instr.mFtrcSl m n d).wf ⟨[single m], [single d]⟩
  | .mFtrcDq m n d => onlyIf (Instr.mFtrcDq m n d).wf ⟨pairBits m, pairBits d⟩
  | .mFtrcSq m n d => onlyIf (Instr.mFtrcSq m n d).wf ⟨[single m], pairBits d⟩
  | .mFtrcDl m n d => onlyIf (Instr.mFtrcDl m n d).wf ⟨pairBits m, [single d]⟩
  | .mFloatLs m n d => onlyIf (Instr.mFloatLs m n d).wf ⟨[single m], [single d]⟩
  | .mFloatQd m n d => onlyIf (Instr.mFloatQd m n d).wf ⟨pairBits m, pairBits d⟩
  | .mFloatLd m n d => onlyIf (Instr.mFloatLd m n d).wf ⟨[single m], pairBits d⟩
  | .mFloatQs m n d => onlyIf (Instr.mFloatQs m n d).wf ⟨pairBits m, [single d]⟩
  | .mFmovSl m n d => onlyIf (Instr.mFmovSl m n d).wf (outG [single m] d)
  | .mFmovDq m n d => onlyIf (Instr.mFmovDq m n d).wf (outG (pairBits m) d)
  | .mFmovLs m d => ⟨[gprAt m 31 0], [single d]⟩
  | .mFmovQd m d => onlyIf (Instr.mFmovQd m d).wf ⟨[gpr m], pairBits d⟩
  | .mFgetscr d => ⟨[fpscrBits], [single d]⟩
  | .mFputscr m n => onlyIf (Instr.mFputscr m n).wf ⟨[single m], [fpscrBits]⟩
  | .mFiprS m n d => onlyIf (Instr.mFiprS m n d).wf ⟨singlesFrom m 4 ++ singlesFrom n 4, [single d]⟩
  | .mFtrvS m n d => onlyIf (Instr.mFtrvS m n d).wf ⟨singlesFrom m 16 ++ singlesFrom n 4, singlesFrom d 4⟩
  | .mFldS m _ d => ⟨[gpr m], [single d]⟩
  | .mFldP m imm d => onlyIf (Instr.mFldP m imm d).wf ⟨[gpr m], pairBits d⟩
  | .mFldD m imm d => onlyIf (Instr.mFldD m imm d).wf ⟨[gpr m], pairBits d⟩
  | .mFstS m _ d => ⟨[gpr m, single d], []⟩
  | .mFstP m imm d => onlyIf (Instr.mFstP m imm d).wf ⟨gpr m :: pairBits d, []⟩
  | .mFstD m imm d => onlyIf (Instr.mFstD m imm d).wf ⟨gpr m :: pairBits d, []⟩
  | .mFldxS m n d => ⟨[gpr m, gpr n], [single d]⟩
  | .mFldxD m n d => onlyIf (Instr.mFldxD m n d).wf ⟨[gpr m, gpr n], pairBits d⟩
  | .mFldxP m n d => onlyIf (Instr.mFldxP m n d).wf ⟨[gpr m, gpr n], pairBits d⟩
  | .mFstxS m n d => ⟨[gpr m, gpr n, single d], []⟩
  | .mFstxD m n d => onlyIf (Instr.mFstxD m n d).wf ⟨gpr m :: gpr n :: pairBits d, []⟩
  | .mFstxP m n d => onlyIf (Instr.mFstxP m n d).wf ⟨gpr m :: gpr n :: pairBits d, []⟩

/-! ### The checks and the record of a step -/

/-- Whether the masks count: only under `RESET_STATE = unwritten` (70 R902). -/
def State.tracks (s : State) : Bool := s.params.resetState == .unwritten

/-- Whether the fetch would read an unwritten PC or ISM. -/
def State.entryUnwritten (s : State) : Bool := s.tracks && !s.written.hasAll entryBits

/-- Whether the instruction would read an unwritten bit. -/
def State.readsUnwritten (s : State) (i : Instr) : Bool := s.tracks && !s.written.hasAll (access i s).reads

/-- The step that finds PC or ISM unwritten is refused, with `pc` reported as 0 (70 R902). -/
def State.refuseEntry (s : State) : Result :=
  .next { s with
    dstate := .faulted
    event := .invalidInstruction 0
    refused := some (s.refused.getD ⟨.unwritten, 0⟩) }

/-- The state `t` with the writes of the instruction recorded, as it stood in `s` (70 R902). -/
def State.recordWrites (s : State) (i : Instr) (t : State) : State :=
  if s.tracks then { t with written := t.written.markAll (access i s).writes } else t

/-- The end of an instruction: one that completed normally has its writes recorded. -/
def State.record (s : State) (i : Instr) : Result → Result
  | .next t => if t.dstate == .fetching then .next (s.recordWrites i t) else .next t
  | .fault e => .fault e
  | .refused e => .refused e

end Sys2Proof.Machine
end

