-- ==== Sys2Proof/Machine/Fetch.lean ====
section
/-! DEFINITION. Fetching (spec 20 R92, R93, 49 R821), the slot-illegal instructions (49 R828), the end of a step in a delay
slot (49 R820, R826), and placing a table word where the next fetch reads it. -/

namespace Sys2Proof.Machine

-- The decoder is not compiled (see Sys2Proof/Decode.lean); the kernel evaluates these definitions.
noncomputable section

/-- A media fetch: the word at PC; PC[1] = 1 faults (20 R93). The error is the address that faulted. -/
def State.fetchMedia (s : State) : Except Quad Code :=
  if s.pc.getLsbD 1 then .error s.pc
  else
    match s.readFault s.pc 4 with
    | some a => .error a
    | none => .ok (.word (s.read32 s.pc))

/-- A compact fetch: the halfword at PC, and the halfword at PC + 2 if the first starts a 4-byte instruction (20 R92, 30
R113). The error is the address that faulted. -/
def State.fetchCompact (s : State) : Except Quad Code :=
  match s.readFault s.pc 2 with
  | some a => .error a
  | none =>
    if startsFourByte s.params.ext (s.read16 s.pc) then
      match s.readFault (s.pc + 2) 2 with
      | some a => .error a
      | none => .ok (.pair (s.read16 s.pc) (s.read16 (s.pc + 2)))
    else .ok (.half (s.read16 s.pc))

/-- The code at PC in the current mode (49 R821). -/
def State.fetch (s : State) : Except Quad Code :=
  match s.ism with
  | .media => s.fetchMedia
  | .compact => s.fetchCompact

/-- `SlotIllegal(id)` (49 R828): the rows of spec/opcode_table.json whose column `slot_illegal` is true. -/
def slotIllegal : Instr → Bool
  | .cMovi20 _ _ => true
  | .cMovi20s _ _ => true
  | .cMova _ => true
  | .cMovWLoadPc _ _ => true
  | .cMovLLoadPc _ _ => true
  | .cMovLLoadDisp12 _ _ _ => true
  | .cMovLStoreDisp12 _ _ _ => true
  | .cBf _ => true
  | .cBfS _ => true
  | .cBt _ => true
  | .cBtS _ => true
  | .cBra _ => true
  | .cBraf _ => true
  | .cBsr _ => true
  | .cBsrf _ => true
  | .cJmp _ => true
  | .cJsr _ => true
  | .cRts => true
  | .cTrapa _ => true
  | .cBrk => true
  | .cFmovLoadDisp12 _ _ _ => true
  | .cFmovStoreDisp12 _ _ _ => true
  | _ => false

/-- The end of a step: an instruction that completed normally in a delay slot commits the branch (49 R820, R826). -/
def settle (inSlot : Bool) : Result → Result
  | .next s => if inSlot && s.dstate == .fetching then .next s.commitPending else .next s
  | .fault e => .fault e
  | .refused e => .refused e

/-- The address and mode from which a code runs: the current PC, and for a media word PC with bits 1:0 cleared. -/
def placePc (pc : Quad) : Code → Quad
  | .half _ => pc
  | .pair _ _ => pc
  | .word _ => pc &&& ~~~3#64

/-- The mode a code belongs to. -/
def codeIsm : Code → Ism
  | .half _ => .compact
  | .pair _ _ => .compact
  | .word _ => .media

/-- The state with a code stored where the next step fetches it, as a loader and the host's PC write would leave it: its
bytes at PC, its mode, nothing pending, and PC and ISM written (70 R902 to R904, log 15). -/
def placeCode (s : State) (c : Code) : State :=
  { s with
    mem := s.mem.writeBytes (placePc s.pc c) (c.bytes s.endian)
    pc := placePc s.pc c
    ism := codeIsm c
    pending := none
    written := s.written.markAll entryBits }

end

end Sys2Proof.Machine
end

