-- ==== Sys2Proof/Machine/Step.lean ====
section
/-! DEFINITION. One step of the engine (spec 49 R820), and a table word stored where the next step fetches. -/

namespace Sys2Proof.Machine

-- The decoder is not compiled (see Sys2Proof/Decode.lean); the kernel evaluates these definitions.
noncomputable section

/-- `Step1()` (49 R820): fetch, decode, check the delay slot, run the instruction, and commit a pending branch. Under
`RESET_STATE = unwritten`, a step that would read an unwritten bit is refused before any effect (70 R902), in the place of 60
R854 that its own checks and refusals have; an instruction that completes has its writes recorded. -/
def step (s : State) : Host.Outcome State Fault Refusal :=
  if s.entryUnwritten then s.refuseEntry
  else
    match s.fetch with
    | .error a => s.memoryFault a
    | .ok c =>
      match decodeCode s.params.ext c with
      | .error _ => s.invalid
      | .ok i =>
        if s.pending.isSome && slotIllegal i then s.invalid
        else if s.readsUnwritten i then s.refuse .unwritten
        else settle s.pending.isSome (s.record i (exec i { s with dstate := .executing }))

/-- The state with the instruction of `nbits` table bits `w` stored where `step` fetches next (log 15, log 16). -/
def State.withFetchWord (s : State) (nbits w : Nat) : State := placeCode s (tableCode nbits w)

end

end Sys2Proof.Machine
end

