-- ==== Sys2Proof/Machine/FpValue.lean ====
section
/-! DEFINITION. What a floating-point pattern stands for, and what a correctly rounded result is (00 R17, 48 R731 to R734): the
terms in which the claims speak of the helpers of spec 48. Nothing here refers to how Float.lean computes. -/

namespace Sys2Proof.Machine

/-- The biased exponent of a pattern. -/
def FFormat.biased (f : FFormat) (x : Nat) : Nat := x / 2 ^ f.frac % 2 ^ f.exp

/-- The fraction of a pattern. -/
def FFormat.fraction (f : FFormat) (x : Nat) : Nat := x % 2 ^ f.frac

/-- The sign bit of a pattern. -/
def FFormat.sign (f : FFormat) (x : Nat) : Bool := x / 2 ^ (f.exp + f.frac) % 2 == 1

/-- Neither an infinity nor a NaN. -/
def FFormat.finite (f : FFormat) (x : Nat) : Bool := f.biased x != 2 ^ f.exp - 1

/-- A NaN, whatever its sign and payload. -/
def FFormat.nan (f : FFormat) (x : Nat) : Bool := f.biased x == 2 ^ f.exp - 1 && f.fraction x != 0

/-- The infinity of a sign. -/
def FFormat.infinity (f : FFormat) (neg : Bool) : Nat := (neg.toNat * 2 ^ f.exp + (2 ^ f.exp - 1)) * 2 ^ f.frac

/-- The value of a finite pattern: with the bias `2^(exp-1) - 1`, a normal one has a leading 1, and a subnormal one keeps its exact
value (48 R733). -/
def FFormat.value (f : FFormat) (x : Nat) : ℚ :=
  (if f.sign x then -1 else 1) *
    (if f.biased x = 0 then f.fraction x / 2 ^ f.frac * (2 : ℚ) ^ (2 - 2 ^ (f.exp - 1) : ℤ)
      else (1 + f.fraction x / 2 ^ f.frac) * (2 : ℚ) ^ (f.biased x + 1 - 2 ^ (f.exp - 1) : ℤ))

/-- Half a last place above the greatest finite value: what is not below it overflows under round-to-nearest (48 R734). -/
def FFormat.limit (f : FFormat) : ℚ := (2 - 1 / 2 ^ (f.frac + 1)) * 2 ^ (2 ^ (f.exp - 1) - 1)

/-- The pattern `z` is the real number `r` rounded to nearest, ties to even (48 R731): an infinity of its sign where it overflows
(R734), and otherwise a finite pattern of its sign, subnormal or not (R733), no finite pattern being nearer, and an even one where
another value is as near. The sign of an exact zero is `neg`. -/
def Rounded (f : FFormat) (r : ℝ) (neg : Bool) (z : Nat) : Prop :=
  ((f.limit : ℝ) ≤ |r| → (0 < r → z = f.infinity false) ∧ (r < 0 → z = f.infinity true)) ∧
  (|r| < (f.limit : ℝ) → f.finite z = true ∧ (f.sign z = true ↔ r < 0 ∨ r = 0 ∧ neg = true) ∧
    ∀ y : Nat, f.finite y = true → |(f.value z : ℝ) - r| ≤ |(f.value y : ℝ) - r| ∧
      (|(f.value z : ℝ) - r| = |(f.value y : ℝ) - r| → f.value y = f.value z ∨ z % 2 = 0))

/-- A number rounded toward zero (48 R740). -/
def truncated (r : ℚ) : ℤ := if r < 0 then ⌈r⌉ else ⌊r⌋

/-- The number is the value of a binary32 pattern. -/
def IsSingle (r : ℚ) : Prop := ∃ y : Word, binary32.finite y.toNat = true ∧ binary32.value y.toNat = r

/-- The constraints of 48 R741 on the dot product `r` of two 4-tuples: `FP_NAN` for a NaN input or an `inf × 0` product, and the
exact value where every product, and every partial sum from left to right, is representable. -/
def DotAdmissible (v w : Vector Word 4) (r : Word) : Prop :=
  let a := fun i : Fin 4 => v[i].toNat
  let b := fun i : Fin 4 => w[i].toNat
  let p := fun i : Fin 4 => binary32.value (a i) * binary32.value (b i)
  ((∃ i, binary32.nan (a i) = true ∨ binary32.nan (b i) = true ∨
      a i ∈ [binary32.infinity false, binary32.infinity true] ∧ b i ∈ [0, 2 ^ 31] ∨
      a i ∈ [0, 2 ^ 31] ∧ b i ∈ [binary32.infinity false, binary32.infinity true]) → r = fpNan32) ∧
  ((∀ i, binary32.finite (a i) = true ∧ binary32.finite (b i) = true ∧ IsSingle (p i)) →
    IsSingle (p 0 + p 1) → IsSingle (p 0 + p 1 + p 2) → IsSingle (p 0 + p 1 + p 2 + p 3) →
    binary32.finite r.toNat = true ∧ binary32.value r.toNat = p 0 + p 1 + p 2 + p 3)

end Sys2Proof.Machine
end

