-- ==== Sys2Proof/Machine/HostCalls.lean ====
section
/-! DEFINITION. The host's calls between steps: registers by name (spec 10 R57), `Reset()` (70 R900), `Step(n)` and `Step()`
(49 R833). No step performs one. -/

namespace Sys2Proof.Machine

-- The decoder is not compiled (see Sys2Proof/Decode.lean); the kernel evaluates these definitions.
noncomputable section

/-- The registers the host can name (10 R57). -/
inductive RegName where
  | gr (i : MReg)
  | cr (k : MReg)
  | tr (t : TReg)
  | fr (i : MReg)
  | fpscr
  | pc
  | sr
  | flagT
  | flagS
  | flagQ
  | flagM
  | gbr
  | vbr
  | pr
  | mach
  | macl
  | fpul
  deriving DecidableEq, Repr

/-- The names `p0` to `p<n-1>` with what `f` makes of each number. -/
def numbered (p : String) (n : Nat) (f : Nat → RegName) : List (String × RegName) :=
  (List.range n).map fun i => (p ++ toString i, f i)

/-- The name set of 10 R57. -/
def regNames : List (String × RegName) :=
  numbered "GR" 64 (fun i => .gr (BitVec.ofNat 6 i)) ++ numbered "CR" 64 (fun i => .cr (BitVec.ofNat 6 i)) ++
  numbered "TR" 8 (fun i => .tr (BitVec.ofNat 3 i)) ++ numbered "FR" 64 (fun i => .fr (BitVec.ofNat 6 i)) ++
  [("FPSCR", .fpscr), ("PC", .pc), ("SR", .sr), ("T", .flagT), ("S", .flagS), ("Q", .flagQ), ("M", .flagM),
   ("GBR", .gbr), ("VBR", .vbr), ("PR", .pr), ("MACH", .mach), ("MACL", .macl), ("FPUL", .fpul)]

/-- The bits of the physical storage that a named register stands for (10 R57). -/
def nameBits (s : State) : RegName → List StoreBits
  | .gr i => [gpr i]
  | .cr k => [control k]
  | .tr t => [target t]
  | .fr i => [single i]
  | .fpscr => [fpscrBits]
  | .pc => entryBits
  | .sr => [srBits]
  | .flagT => [tBit]
  | .flagS => [sBit]
  | .flagQ => [qBit]
  | .flagM => [mBit]
  | .gbr => [s.gbrOut]
  | .vbr => [vbrBits]
  | .pr => [s.prOut]
  | .mach => [s.machBits]
  | .macl => [s.maclBits]
  | .fpul => [s.fpulBits]

/-- The state as the host may read it: every unwritten bit is 0 (70 R902). -/
def State.known (s : State) : State :=
  match s.params.resetState with
  | .zero => s
  | .unwritten =>
    { s with
      gr := s.gr.zipWith (· &&& ·) s.written.gr
      sr := s.sr &&& s.written.sr
      cr := s.cr.zipWith (· &&& ·) s.written.cr
      tr := s.tr.zipWith (· &&& ·) s.written.tr
      fr := s.fr.zipWith (· &&& ·) s.written.fr
      fpscr := s.fpscr &&& s.written.fpscr
      vbr := s.vbr &&& s.written.vbr
      gbr := s.gbr &&& s.written.gbr
      mach := s.mach &&& s.written.mach
      macl := s.macl &&& s.written.macl
      pr := s.pr &&& s.written.pr
      fpul := s.fpul &&& s.written.fpul
      pc := s.pc &&& s.written.pc
      ism := if s.written.ism = 0 then .compact else s.ism }

/-- The stored value of a named register. DEDUCED (log 19): a narrow one is zero-extended (10 R57). PC reads as `TaggedPC()`. -/
def storedReg (s : State) : RegName → Quad
  | .gr i => s.g i
  | .cr k => s.c k
  | .tr t => s.t t
  | .fr i => zext64 (s.f i)
  | .fpscr => zext64 s.fpscr
  | .pc => s.taggedPC
  | .sr => zext64 s.sr
  | .flagT => truth 64 s.flagT
  | .flagS => truth 64 s.flagS
  | .flagQ => truth 64 s.flagQ
  | .flagM => truth 64 s.flagM
  | .gbr => zext64 s.getGbr
  | .vbr => zext64 s.vbr
  | .pr => zext64 s.getPr
  | .mach => zext64 s.getMach
  | .macl => zext64 s.getMacl
  | .fpul => zext64 s.getFpul

/-- Reading a named register: an unwritten bit reads 0, and no mark is set (70 R902). -/
def readReg (s : State) (r : RegName) : Quad := storedReg s.known r

/-- Storing into a named register, as an instruction write does (10 R57). A PC write is `SetPCTagged` and clears `pending` (49
R829). -/
def storeReg (s : State) (v : Quad) : RegName → State
  | .gr i => s.setG i v
  | .cr k => s.setC k v
  | .tr t => s.setTr t v
  | .fr i => s.setF i (low32 v)
  | .fpscr => s.setFpscr (low32 v)
  | .pc => { s.setPCTagged v with pending := none }
  | .sr => { s with sr := low32 v }
  | .flagT => s.setT (v.getLsbD 0)
  | .flagS => s.setS (v.getLsbD 0)
  | .flagQ => s.setQ (v.getLsbD 0)
  | .flagM => s.setM (v.getLsbD 0)
  | .gbr => s.setGbr (low32 v)
  | .vbr => s.setVbr (low32 v)
  | .pr => s.setPr (low32 v)
  | .mach => s.setMach (low32 v)
  | .macl => s.setMacl (low32 v)
  | .fpul => s.setFpul (low32 v)

/-- Writing a named register: the value is stored, and its bits are written (10 R57, 70 R902). -/
def writeReg (s : State) (v : Quad) (r : RegName) : State :=
  { storeReg s v r with written := s.written.markAll (nameBits s r) }

/-- `ReadRegister(name)`; none for an unknown name, which is refused (10 R57). -/
def readRegister (s : State) (name : String) : Option Quad :=
  match regNames.lookup name with
  | some r => some (readReg s r)
  | none => none

/-- `WriteRegister(name, value)`; none for an unknown name, which is refused (10 R57). -/
def writeRegister (s : State) (name : String) (v : Quad) : Option State :=
  match regNames.lookup name with
  | some r => some (writeReg s v r)
  | none => none

/-- `Reset()` (70 R900): `pending`, `dstate` and the `refused` mark cleared, and every register by `RESET_STATE` (R901): 0 and
written under `zero`, unwritten under `unwritten`. Memory, the byte order, the parameters and the draw counter stay. -/
def hostReset (s : State) : State :=
  { State.reset with
    mem := s.mem
    endian := s.endian
    params := s.params
    draws := s.draws
    written := match s.params.resetState with
      | .zero => Written.all
      | .unwritten => Written.none }

/-- `Step()` (49 R833): the state, `NextPC = TaggedPC()` after the step, and the report. -/
def hostStep (s : State) : State × Quad × TrapReason :=
  match step s with
  | .next t => (t, t.taggedPC, t.event)
  | .fault _ => (s, s.taggedPC, .none)
  | .refused _ => (s, s.taggedPC, .none)

/-- `Step(n)` (49 R833): up to `n` steps, stopping after the first that reports an event. -/
def hostSteps : Nat → State → State × TrapReason
  | 0, s => (s, .none)
  | n + 1, s =>
    match hostStep s with
    | (t, _, .none) => hostSteps n t
    | (t, _, e) => (t, e)

end

end Sys2Proof.Machine
end

