-- ==== Sys2Proof/Safety.lean ====
section
/-! DEFINITION. What the claims are stated in: the invariant of the engine at every step boundary (spec 49 R830, 10 R40, R49),
runs, what counts as a safe run (60 R856), and the frame of an instruction: what it changes, and that it changes nothing
else. -/

namespace Sys2Proof.Machine

/-- The report of the last step fits the dispatch state (49 R822, 60 R855). -/
def reportFits : DState → TrapReason → Bool
  | .fetching, .none => true
  | .faulted, .invalidInstruction _ => true
  | .faulted, .memoryFault _ _ => true
  | .trapped, .explicitTrap _ _ => true
  | _, _ => false

/-- A recorded branch belongs to compact mode, and an untagged target is even (49 R830, 10 R43). -/
def pendingOk (m : Ism) : Option Pending → Bool
  | none => true
  | some p => m == .compact && (p.tagged || !p.target.getLsbD 0)

/-- The invariant at every step boundary: memory has its canonical form; PC is even (10 R40); the reserved bits of FPSCR are 0
(10 R49); `pending` implies compact mode (49 R830); `dstate` is never `Executing` (49 R830) and fits the report. -/
structure State.Inv (s : State) : Prop where
  mem : s.mem.wf = true
  pc : s.pc.getLsbD 0 = false
  fpscr : s.fpscr &&& 0xFFC00000#32 = 0
  pending : pendingOk s.ism s.pending = true
  dstate : reportFits s.dstate s.event = true

/-- `n` steps lead from one state to another. -/
def StepsTo : Nat → State → State → Prop
  | 0, s, t => s = t
  | n + 1, s, t => ∃ u, step s = .next u ∧ StepsTo n u t

/-- A run is safe when its last state holds no `refused` mark: no step of it depended on an instruction without a meaning (60
R856). -/
def SafeRun (n : Nat) (s t : State) : Prop := StepsTo n s t ∧ t.refused = none

/-! ### Frames -/

/-- What an instruction may change beside PC and the report. A part not named here keeps its value (`Keeps`). -/
structure Parts where
  gr : List MReg := []
  fr : List MReg := []
  cr : List MReg := []
  tr : List TReg := []
  /-- The bits of SR. -/
  sr : Word := 0
  fpscr : Bool := false
  vbr : Bool := false
  gbr : Bool := false
  mach : Bool := false
  macl : Bool := false
  pr : Bool := false
  fpul : Bool := false
  ism : Bool := false
  pending : Bool := false
  draws : Bool := false
  /-- The addresses of the stored bytes. -/
  mem : List Quad := []

/-- Nothing but the parts named in `p`, PC, the dispatch state and the report differs from `s` in `t`. The byte order, the
parameters, the `refused` mark and the written masks never do: the step records the writes after `exec` (70 R902). -/
structure Keeps (p : Parts) (s t : State) : Prop where
  gr : ∀ k, k ∉ p.gr → t.g k = s.g k
  fr : ∀ k, k ∉ p.fr → t.f k = s.f k
  cr : ∀ k, k ≠ 0 → k ∉ p.cr → t.c k = s.c k
  tr : ∀ k, k ∉ p.tr → t.t k = s.t k
  sr : ∀ b, p.sr.getLsbD b = false → t.sr.getLsbD b = s.sr.getLsbD b
  fpscr : p.fpscr = false → t.fpscr = s.fpscr
  vbr : p.vbr = false → t.vbr = s.vbr
  gbr : p.gbr = false → t.gbr = s.gbr
  mach : p.mach = false → t.mach = s.mach
  macl : p.macl = false → t.macl = s.macl
  pr : p.pr = false → t.pr = s.pr
  fpul : p.fpul = false → t.fpul = s.fpul
  ism : p.ism = false → t.ism = s.ism
  pending : p.pending = false → t.pending = s.pending
  draws : p.draws = false → t.draws = s.draws
  mem : ∀ a, a ∉ p.mem → t.read8 a = s.read8 a
  endian : t.endian = s.endian
  params : t.params = s.params
  written : t.written = s.written
  refused : t.refused = s.refused

/-- The instruction completes normally at the next PC `next`, with `ok` of the state it leaves, and changes nothing outside
`p`. -/
def Runs (i : Instr) (s : State) (next : Quad) (p : Parts) (ok : State → Prop) : Prop :=
  ∃ t, exec i s = .next t ∧ t.pc = next ∧ t.dstate = .fetching ∧ t.event = .none ∧ Keeps p s t ∧ ok t

/-- A compact instruction of 2 bytes that writes one register, all 64 bits of it (10 R31), and nothing else. -/
def PutsR (i : Instr) (s : State) (n : CReg) (v : Word) : Prop :=
  Runs i s (s.pc + 2) { gr := [creg n] } fun t => t.g (creg n) = sext64 v

/-- A compact instruction that writes the T flag and nothing else. -/
def PutsT (i : Instr) (s : State) (b : Bool) : Prop :=
  Runs i s (s.pc + 2) { sr := 1 } fun t => t.flagT = b

/-- A compact instruction that writes one register and the T flag. -/
def PutsRT (i : Instr) (s : State) (n : CReg) (v : Word) (b : Bool) : Prop :=
  Runs i s (s.pc + 2) { gr := [creg n], sr := 1 } fun t => t.g (creg n) = sext64 v ∧ t.flagT = b

/-- A media instruction that writes one general register; a write to R63 is discarded (10 R32). -/
def PutsG (i : Instr) (s : State) (d : MReg) (v : Quad) : Prop :=
  Runs i s (s.pc + 4) { gr := [d] } fun t => t.g d = if d = 63 then 0 else v

/-- An instruction that writes one single-precision register. -/
def PutsF (i : Instr) (s : State) (size : Quad) (d : MReg) (v : Word) : Prop :=
  Runs i s (s.pc + size) { fr := [d] } fun t => t.f d = v

/-- An instruction that writes a pair of single-precision registers, the high half in the lower one (10 R47). -/
def PutsD (i : Instr) (s : State) (size : Quad) (d : MReg) (v : Quad) : Prop :=
  Runs i s (s.pc + size) { fr := [d, d + 1] } fun t => t.f d = high32 v ∧ t.f (d + 1) = low32 v

/-- An instruction whose only effect is the next PC. -/
def OnlyAdvances (i : Instr) (s : State) (size : Quad) : Prop :=
  Runs i s (s.pc + size) {} fun _ => True

/-- Where GBR is kept (10 R38). -/
def gbrParts : CompactStorage → Parts
  | .aliased => { gr := [16] }
  | .separate => { gbr := true }

/-- Where MACH is kept (10 R38). -/
def machParts : CompactStorage → Parts
  | .aliased => { gr := [17] }
  | .separate => { mach := true }

/-- Where MACL is kept (10 R38). -/
def maclParts : CompactStorage → Parts
  | .aliased => { gr := [17] }
  | .separate => { macl := true }

/-- Where the accumulator `MACH:MACL` is kept (10 R38). -/
def macParts : CompactStorage → Parts
  | .aliased => { gr := [17] }
  | .separate => { mach := true, macl := true }

/-- Where PR, the procedure register, is kept (10 R38). -/
def prParts : CompactStorage → Parts
  | .aliased => { gr := [18] }
  | .separate => { pr := true }

/-- Where FPUL is kept (10 R51). -/
def fpulParts : CompactStorage → Parts
  | .aliased => { fr := [32] }
  | .separate => { fpul := true }

/-- Four words as a vector, the first at index 0 (48 R741). -/
def four (a b c d : Word) : Vector Word 4 := #v[a, b, c, d]

/-- The addresses of the `n` bytes from `a`. -/
def bytesFrom (a : Quad) (n : Nat) : List Quad := (List.range n).map fun i => a + BitVec.ofNat 64 i

/-- The address `q` bytes away from `a`, upwards or downwards. -/
def blockAddr (up : Bool) (a : Quad) (q : Nat) : Quad := if up then a + BitVec.ofNat 64 q else a - BitVec.ofNat 64 q

/-- How many bytes of the aligned block of `n` bytes around `a` lie at `a` and above, or at `a` and below (46 R655). -/
def blockCount (up : Bool) (a : Quad) (n : Nat) : Nat := if up then n - a.toNat % n else a.toNat % n + 1

/-- The addresses of those bytes. -/
def blockPart (up : Bool) (a : Quad) (n : Nat) : List Quad := (List.range (blockCount up a n)).map (blockAddr up a)

/-- The address with which a pair transfer faults, where `fault` says how each of its two accesses of 4 bytes does (20 R87): its own
where it is not a multiple of 8 under `MISALIGNED = fault`, or else that of its first faulting access. -/
def State.pairFault (s : State) (fault : Quad → Nat → Option Quad) (a : Quad) : Option Quad :=
  if s.params.misaligned = .fault ∧ a.toNat % 8 ≠ 0 then some a else (fault a 4).or (fault (a + 4) 4)

/-- `x` is the lowest of the addresses at which an access of one byte faults. -/
def FirstFault (fault : Quad → Nat → Option Quad) (l : List Quad) (x : Quad) : Prop :=
  x ∈ l ∧ fault x 1 = some x ∧ ∀ y ∈ l, y.toNat < x.toNat → fault y 1 = none

/-- The instruction reports `InvalidInstruction` at its own tagged address, and nothing else changes (60 R851). -/
def ReportsInvalid (i : Instr) (s : State) : Prop :=
  exec i s = .next { s with dstate := .faulted, event := .invalidInstruction s.taggedPC }

/-- The instruction reports `MemoryFault` with the address `a`, and nothing else changes (60 R852). -/
def ReportsMemory (i : Instr) (s : State) (a : Quad) : Prop :=
  exec i s = .next { s with dstate := .faulted, event := .memoryFault a s.taggedPC }

/-- The instruction is refused: it reports `InvalidInstruction` and sets the sticky mark (60 R856). That a mark which is already
set stays, and that its pc is the tagged one, is the model's reading of 60 R856: log 13 (DEDUCED). -/
def IsRefused (i : Instr) (s : State) (why : RefuseReason) : Prop :=
  exec i s = .next { s with
    dstate := .faulted
    event := .invalidInstruction s.taggedPC
    refused := some (s.refused.getD ⟨why, s.taggedPC⟩) }

/-! ### Unwritten bits (70 R902) -/

/-- The bits `hi:lo` of a register are written. -/
def State.BitsWritten (s : State) (r : Store) (hi lo : Nat) : Prop :=
  ∀ b, lo ≤ b → b ≤ hi → (s.written.get r).getLsbD b = true

/-- The step is refused because of an unwritten bit: `InvalidInstruction(pc)` is reported and the sticky mark is set, and nothing
else changes. That a mark which is already set stays is the model's reading of 60 R856: log 13 (DEDUCED). -/
def StepRefusedAt (s : State) (pc : Quad) : Prop :=
  step s = .next { s with
    dstate := .faulted
    event := .invalidInstruction pc
    refused := some (s.refused.getD ⟨.unwritten, pc⟩) }

/-- The step runs the instruction `i`, and records what it writes if it completes normally. -/
def StepRuns (s : State) (i : Instr) : Prop :=
  ∀ t, exec i { s with dstate := .executing } = .next t →
    step s = .next (if t.dstate = .fetching then s.recordWrites i t else t)

end Sys2Proof.Machine
end

