-- ==== Sys2Proof/Certificates/Slice0/Obligations.lean ====
section
/-! DEFINITION. The statements for the provers. A register, a memory and a flag are read through the accessors of
Sys2Proof/Machine/Ops.lean; `Runs`, `PutsR` and the like, with the frame `Keeps`, stand in Sys2Proof/Safety.lean. -/

open Sys2Proof Sys2Proof.Machine

/-! ### Compact arithmetic, logic and shifts (spec 40) -/

/-- 40 R205 to R208, R224, R235 to R239: the sums, differences and flags, over the integers. -/
def Obligations.CompactAddAndSubtract : Prop :=
  ∀ (s : State) (m n : CReg) (imm : BitVec 8),
    PutsR (.cAdd m n) s n (BitVec.ofNat 32 ((s.r n).toNat + (s.r m).toNat)) ∧
    PutsR (.cAddImm imm n) s n (BitVec.ofInt 32 ((s.r n).toInt + imm.toInt)) ∧
    PutsRT (.cAddc m n) s n (BitVec.ofNat 32 ((s.r n).toNat + (s.r m).toNat + s.flagT.toNat))
      (decide (2 ^ 32 ≤ (s.r n).toNat + (s.r m).toNat + s.flagT.toNat)) ∧
    PutsRT (.cAddv m n) s n (BitVec.ofInt 32 ((s.r n).toInt + (s.r m).toInt))
      (decide ((s.r n).toInt + (s.r m).toInt < -2 ^ 31 ∨ 2 ^ 31 ≤ (s.r n).toInt + (s.r m).toInt)) ∧
    PutsRT (.cDt n) s n (BitVec.ofInt 32 ((s.r n).toInt - 1)) (decide (s.r n = 1)) ∧
    PutsR (.cNeg m n) s n (BitVec.ofInt 32 (-(s.r m).toInt)) ∧
    PutsRT (.cNegc m n) s n (BitVec.ofInt 32 (-(s.r m).toInt - s.flagT.toNat))
      (decide ((s.r m).toNat + s.flagT.toNat ≠ 0)) ∧
    PutsR (.cSub m n) s n (BitVec.ofInt 32 ((s.r n).toInt - (s.r m).toInt)) ∧
    PutsRT (.cSubc m n) s n (BitVec.ofInt 32 ((s.r n).toInt - (s.r m).toInt - s.flagT.toNat))
      (decide ((s.r n).toNat < (s.r m).toNat + s.flagT.toNat)) ∧
    PutsRT (.cSubv m n) s n (BitVec.ofInt 32 ((s.r n).toInt - (s.r m).toInt))
      (decide ((s.r n).toInt - (s.r m).toInt < -2 ^ 31 ∨ 2 ^ 31 ≤ (s.r n).toInt - (s.r m).toInt))

/-- 40 R225 to R228, 41 R305, R306, R349 to R352: extensions and moves, by value and by field. -/
def Obligations.CompactExtendAndMove : Prop :=
  ∀ (s : State) (m n : CReg) (imm : BitVec 8),
    PutsR (.cExtsB m n) s n (BitVec.ofInt 32 ((s.r m).extractLsb' 0 8).toInt) ∧
    PutsR (.cExtsW m n) s n (BitVec.ofInt 32 ((s.r m).extractLsb' 0 16).toInt) ∧
    PutsR (.cExtuB m n) s n (BitVec.ofNat 32 ((s.r m).toNat % 2 ^ 8)) ∧
    PutsR (.cExtuW m n) s n (BitVec.ofNat 32 ((s.r m).toNat % 2 ^ 16)) ∧
    PutsR (.cMov m n) s n (s.r m) ∧
    PutsR (.cMovImm imm n) s n (BitVec.ofInt 32 imm.toInt) ∧
    PutsR (.cMovt n) s n (BitVec.ofNat 32 s.flagT.toNat) ∧
    (∃ v : Word, PutsR (.cSwapB m n) s n v ∧ v.extractLsb' 16 16 = (s.r m).extractLsb' 16 16 ∧
      v.extractLsb' 8 8 = (s.r m).extractLsb' 0 8 ∧ v.extractLsb' 0 8 = (s.r m).extractLsb' 8 8) ∧
    (∃ v : Word, PutsR (.cSwapW m n) s n v ∧ v.extractLsb' 16 16 = (s.r m).extractLsb' 0 16 ∧
      v.extractLsb' 0 16 = (s.r m).extractLsb' 16 16) ∧
    (∃ v : Word, PutsR (.cXtrct m n) s n v ∧ v.extractLsb' 16 16 = (s.r m).extractLsb' 0 16 ∧
      v.extractLsb' 0 16 = (s.r n).extractLsb' 16 16)

/-- 40 R221, R232, 41 R307 to R309, 42 R403, R404, R407 to R409, 43 R470, R471: results that come from an immediate, PC, R0
or a special register. Division by 0 gives the open value of 40 R221, whatever it is. -/
def Obligations.CompactResultsFromElsewhere : Prop :=
  ∀ (s : State) (n : CReg) (imm : BitVec 20) (disp : BitVec 8),
    (s.r 0 ≠ 0 → PutsR (.cDivu n) s n (BitVec.ofNat 32 ((s.r n).toNat / (s.r 0).toNat))) ∧
    (s.r 0 = 0 → PutsR (.cDivu n) s n (Config.divuZero (s.r n))) ∧
    PutsR (.cMulr n) s n (BitVec.ofInt 32 ((s.r 0).toInt * (s.r n).toInt)) ∧
    Runs (.cMovi20 imm n) s (s.pc + 4) { gr := [creg n] } (fun t => t.g (creg n) = BitVec.ofInt 64 imm.toInt) ∧
    Runs (.cMovi20s imm n) s (s.pc + 4) { gr := [creg n] }
      (fun t => t.g (creg n) = BitVec.ofInt 64 (imm.toInt * 256)) ∧
    PutsR (.cMova disp) s 0 (BitVec.ofNat 32 ((low32 s.pc).toNat / 4 * 4 + 4 + 4 * disp.toNat)) ∧
    PutsR (.cStcGbr n) s n s.getGbr ∧
    PutsR (.cStcVbr n) s n s.vbr ∧
    PutsR (.cStsMach n) s n s.getMach ∧
    PutsR (.cStsMacl n) s n s.getMacl ∧
    PutsR (.cStsPr n) s n s.getPr ∧
    PutsR (.cStsFpscr n) s n s.fpscr ∧
    PutsR (.cStsFpul n) s n s.getFpul

/-- 40 R209 to R217, R240, R241, R243 to R245, R248, R249, R251, R252, 42 R388, R390: the bitwise results, bit by bit, and what
the tests, the comparisons, `clrt` and `sett` write to T. -/
def Obligations.CompactLogicAndCompare : Prop :=
  ∀ (s : State) (m n : CReg) (imm : BitVec 8),
    (∃ v, PutsR (.cAnd m n) s n v ∧ ∀ k, v.getLsbD k = ((s.r n).getLsbD k && (s.r m).getLsbD k)) ∧
    (∃ v, PutsR (.cAndImm imm) s 0 v ∧ ∀ k, v.getLsbD k = ((s.r 0).getLsbD k && imm.getLsbD k)) ∧
    (∃ v, PutsR (.cNot m n) s n v ∧ ∀ k, k < 32 → v.getLsbD k = !(s.r m).getLsbD k) ∧
    (∃ v, PutsR (.cOr m n) s n v ∧ ∀ k, v.getLsbD k = ((s.r n).getLsbD k || (s.r m).getLsbD k)) ∧
    (∃ v, PutsR (.cOrImm imm) s 0 v ∧ ∀ k, v.getLsbD k = ((s.r 0).getLsbD k || imm.getLsbD k)) ∧
    (∃ v, PutsR (.cXor m n) s n v ∧ ∀ k, v.getLsbD k = ((s.r n).getLsbD k ^^ (s.r m).getLsbD k)) ∧
    (∃ v, PutsR (.cXorImm imm) s 0 v ∧ ∀ k, v.getLsbD k = ((s.r 0).getLsbD k ^^ imm.getLsbD k)) ∧
    (∃ b, PutsT (.cTst m n) s b ∧ (b = true ↔ ∀ k, ¬((s.r n).getLsbD k = true ∧ (s.r m).getLsbD k = true))) ∧
    (∃ b, PutsT (.cTstImm imm) s b ∧ (b = true ↔ ∀ k, ¬((s.r 0).getLsbD k = true ∧ imm.getLsbD k = true))) ∧
    PutsT (.cCmpEqImm imm) s (decide ((s.r 0).toInt = imm.toInt)) ∧
    PutsT (.cCmpEq m n) s (decide ((s.r n).toNat = (s.r m).toNat)) ∧
    PutsT (.cCmpHs m n) s (decide ((s.r n).toNat ≥ (s.r m).toNat)) ∧
    PutsT (.cCmpGe m n) s (decide ((s.r n).toInt ≥ (s.r m).toInt)) ∧
    PutsT (.cCmpHi m n) s (decide ((s.r n).toNat > (s.r m).toNat)) ∧
    PutsT (.cCmpGt m n) s (decide ((s.r n).toInt > (s.r m).toInt)) ∧
    PutsT (.cCmpPz n) s (decide ((s.r n).toInt ≥ 0)) ∧
    PutsT (.cCmpPl n) s (decide ((s.r n).toInt > 0)) ∧
    (∃ b, PutsT (.cCmpStr m n) s b ∧
      (b = true ↔ ∃ j, j < 4 ∧ (s.r n).extractLsb' (8 * j) 8 = (s.r m).extractLsb' (8 * j) 8)) ∧
    PutsT .cClrt s false ∧
    PutsT .cSett s true

/-- 40 R254 to R269: the shifts and rotates, as products and quotients by powers of two; in the moves by one bit, the bit that
leaves goes to T. -/
def Obligations.CompactShifts : Prop :=
  ∀ (s : State) (m n : CReg),
    PutsRT (.cRotl n) s n (BitVec.ofNat 32 (2 * (s.r n).toNat + (s.r n).msb.toNat)) (s.r n).msb ∧
    PutsRT (.cRotr n) s n (BitVec.ofNat 32 ((s.r n).toNat / 2 + (s.r n).toNat % 2 * 2 ^ 31)) ((s.r n).getLsbD 0) ∧
    PutsRT (.cRotcl n) s n (BitVec.ofNat 32 (2 * (s.r n).toNat + s.flagT.toNat)) (s.r n).msb ∧
    PutsRT (.cRotcr n) s n (BitVec.ofNat 32 ((s.r n).toNat / 2 + s.flagT.toNat * 2 ^ 31)) ((s.r n).getLsbD 0) ∧
    PutsRT (.cShal n) s n (BitVec.ofNat 32 (2 * (s.r n).toNat)) (s.r n).msb ∧
    PutsRT (.cShar n) s n (BitVec.ofInt 32 ((s.r n).toInt / 2)) ((s.r n).getLsbD 0) ∧
    PutsRT (.cShll n) s n (BitVec.ofNat 32 (2 * (s.r n).toNat)) (s.r n).msb ∧
    PutsRT (.cShlr n) s n (BitVec.ofNat 32 ((s.r n).toNat / 2)) ((s.r n).getLsbD 0) ∧
    ((s.r m).msb = false →
      PutsR (.cShad m n) s n (BitVec.ofNat 32 ((s.r n).toNat * 2 ^ ((s.r m).toNat % 32))) ∧
      PutsR (.cShld m n) s n (BitVec.ofNat 32 ((s.r n).toNat * 2 ^ ((s.r m).toNat % 32)))) ∧
    ((s.r m).msb = true →
      PutsR (.cShad m n) s n (BitVec.ofInt 32 ((s.r n).toInt / 2 ^ (32 - (s.r m).toNat % 32))) ∧
      PutsR (.cShld m n) s n (BitVec.ofNat 32 ((s.r n).toNat / 2 ^ (32 - (s.r m).toNat % 32)))) ∧
    PutsR (.cShll2 n) s n (BitVec.ofNat 32 ((s.r n).toNat * 2 ^ 2)) ∧
    PutsR (.cShll8 n) s n (BitVec.ofNat 32 ((s.r n).toNat * 2 ^ 8)) ∧
    PutsR (.cShll16 n) s n (BitVec.ofNat 32 ((s.r n).toNat * 2 ^ 16)) ∧
    PutsR (.cShlr2 n) s n (BitVec.ofNat 32 ((s.r n).toNat / 2 ^ 2)) ∧
    PutsR (.cShlr8 n) s n (BitVec.ofNat 32 ((s.r n).toNat / 2 ^ 8)) ∧
    PutsR (.cShlr16 n) s n (BitVec.ofNat 32 ((s.r n).toNat / 2 ^ 16))

/-- 40 R218 to R220, R222, R223, R231, R233, R234, 42 R386: the divide steps, with the new Q as `qs xor M xor c`, and the
multiplies into the accumulator; a write of MACL leaves MACH. -/
def Obligations.CompactDivideAndMultiply : Prop :=
  ∀ (s : State) (m n : CReg),
    Runs (.cDiv0s m n) s (s.pc + 2) { sr := 0x301 } (fun t => t.flagQ = (s.r n).msb ∧ t.flagM = (s.r m).msb ∧
      t.flagT = ((s.r n).msb ^^ (s.r m).msb)) ∧
    Runs .cDiv0u s (s.pc + 2) { sr := 0x301 } (fun t => t.flagQ = false ∧ t.flagM = false ∧ t.flagT = false) ∧
    (∀ sh : Nat, sh = (2 * (s.r n).toNat + s.flagT.toNat) % 2 ^ 32 →
      Runs (.cDiv1 m n) s (s.pc + 2) { gr := [creg n], sr := 0x101 } (fun t =>
        t.g (creg n) = sext64 (t.r n) ∧ t.flagM = s.flagM ∧ t.flagT = (t.flagQ == s.flagM) ∧
        (s.flagQ = s.flagM → t.r n = BitVec.ofInt 32 ((sh : Int) - (s.r m).toNat) ∧
          t.flagQ = ((s.r n).msb ^^ s.flagM ^^ decide (sh < (s.r m).toNat))) ∧
        (s.flagQ ≠ s.flagM → t.r n = BitVec.ofNat 32 (sh + (s.r m).toNat) ∧
          t.flagQ = ((s.r n).msb ^^ s.flagM ^^ decide (2 ^ 32 ≤ sh + (s.r m).toNat))))) ∧
    Runs (.cDmulsL m n) s (s.pc + 2) (macParts s.params.storage)
      (fun t => t.getMac = BitVec.ofInt 64 ((s.r n).toInt * (s.r m).toInt)) ∧
    Runs (.cDmuluL m n) s (s.pc + 2) (macParts s.params.storage)
      (fun t => t.getMac = BitVec.ofNat 64 ((s.r n).toNat * (s.r m).toNat)) ∧
    Runs (.cMulL m n) s (s.pc + 2) (maclParts s.params.storage)
      (fun t => t.getMacl = BitVec.ofInt 32 ((s.r n).toInt * (s.r m).toInt) ∧ t.getMach = s.getMach) ∧
    Runs (.cMulsW m n) s (s.pc + 2) (maclParts s.params.storage)
      (fun t => t.getMacl = BitVec.ofInt 32 (((s.r n).extractLsb' 0 16).toInt * ((s.r m).extractLsb' 0 16).toInt) ∧
        t.getMach = s.getMach) ∧
    Runs (.cMuluW m n) s (s.pc + 2) (maclParts s.params.storage)
      (fun t => t.getMacl = BitVec.ofNat 32 ((s.r n).toNat % 2 ^ 16 * ((s.r m).toNat % 2 ^ 16)) ∧
        t.getMach = s.getMach) ∧
    Runs .cClrmac s (s.pc + 2) (macParts s.params.storage) (fun t => t.getMach = 0 ∧ t.getMacl = 0)

/-- 40 R229, R230: multiply and accumulate, when neither access faults. After mac.w with S = 1 nothing is said of MACH: it is an
open value. -/
def Obligations.CompactMultiplyAccumulate : Prop :=
  ∀ (s : State) (m n : CReg) (a b : Quad),
    (a = sext64 (s.r n) → b = sext64 (if m = n then s.r n + 4 else s.r m) →
      s.readFault a 4 = none → s.readFault b 4 = none →
      Runs (.cMacL m n) s (s.pc + 2)
        { macParts s.params.storage with gr := creg n :: creg m :: (macParts s.params.storage).gr } (fun t =>
          t.g (creg m) = sext64 (if m = n then s.r m + 8 else s.r m + 4) ∧
          t.g (creg n) = sext64 (if m = n then s.r n + 8 else s.r n + 4) ∧
          ∃ acc : Int, acc = s.getMac.toInt + (s.read32 a).toInt * (s.read32 b).toInt ∧
            t.getMac = BitVec.ofInt 64 (if s.flagS then max (-2 ^ 47) (min (2 ^ 47 - 1) acc) else acc))) ∧
    (a = sext64 (s.r n) → b = sext64 (if m = n then s.r n + 2 else s.r m) →
      s.readFault a 2 = none → s.readFault b 2 = none →
      Runs (.cMacW m n) s (s.pc + 2)
        { macParts s.params.storage with
          gr := creg n :: creg m :: (macParts s.params.storage).gr
          draws := s.flagS } (fun t =>
          t.g (creg m) = sext64 (if m = n then s.r m + 4 else s.r m + 2) ∧
          t.g (creg n) = sext64 (if m = n then s.r n + 4 else s.r n + 2) ∧
          ∃ p : Int, p = (s.read16 a).toInt * (s.read16 b).toInt ∧
            (s.flagS = false → t.getMac = BitVec.ofInt 64 (s.getMac.toInt + p)) ∧
            (s.flagS = true →
              t.getMacl = BitVec.ofInt 32 (max (-2 ^ 31) (min (2 ^ 31 - 1) (s.getMacl.toInt + p))))))

/-! ### Compact special registers (spec 42, 43) -/

/-- 42 R387, R389, R392 to R402, R405, R406, R410 to R412, 43 R466 to R469, R472, R473: the special registers and flags written
from a register, loaded through `@Rm+` or pushed through `@-Rn`, the last two when the access does not fault. A write of MACH
leaves MACL, and the other way. -/
def Obligations.CompactSpecialWritesAndTransfers : Prop :=
  (∀ (s : State) (m : CReg),
     Runs .cClrs s (s.pc + 2) { sr := 2 } (fun t => t.flagS = false) ∧
     Runs .cSets s (s.pc + 2) { sr := 2 } (fun t => t.flagS = true) ∧
     Runs (.cLdcSr m) s (s.pc + 2) { sr := 0xFFFFFFFF } (fun t => t.sr = s.r m ∧ t.flagT = (s.r m).getLsbD 0 ∧
       t.flagS = (s.r m).getLsbD 1 ∧ t.flagQ = (s.r m).getLsbD 8 ∧ t.flagM = (s.r m).getLsbD 9) ∧
     Runs (.cLdcGbr m) s (s.pc + 2) (gbrParts s.params.storage) (fun t => t.getGbr = s.r m ∧
       (s.params.storage = .aliased → t.g 16 = sext64 (s.r m))) ∧
     Runs (.cLdcVbr m) s (s.pc + 2) { vbr := true } (fun t => t.vbr = s.r m) ∧
     Runs (.cLdsMach m) s (s.pc + 2) (machParts s.params.storage) (fun t => t.getMach = s.r m ∧ t.getMacl = s.getMacl) ∧
     Runs (.cLdsMacl m) s (s.pc + 2) (maclParts s.params.storage) (fun t => t.getMacl = s.r m ∧ t.getMach = s.getMach) ∧
     Runs (.cLdsPr m) s (s.pc + 2) (prParts s.params.storage) (fun t => t.getPr = s.r m) ∧
     Runs (.cLdsFpscr m) s (s.pc + 2) { fpscr := true } (fun t => t.fpscr.toNat = (s.r m).toNat % 2 ^ 22) ∧
     Runs (.cLdsFpul m) s (s.pc + 2) (fpulParts s.params.storage) (fun t => t.getFpul = s.r m)) ∧
  (∀ (s : State) (m : CReg) (a : Quad), a = sext64 (s.r m) → s.readFault a 4 = none →
     Runs (.cLdcLGbr m) s (s.pc + 2)
       { gbrParts s.params.storage with gr := creg m :: (gbrParts s.params.storage).gr }
       (fun t => t.getGbr = s.read32 a ∧ t.g (creg m) = sext64 (s.r m + 4)) ∧
     Runs (.cLdcLVbr m) s (s.pc + 2) { gr := [creg m], vbr := true }
       (fun t => t.vbr = s.read32 a ∧ t.g (creg m) = sext64 (s.r m + 4)) ∧
     Runs (.cLdsLMach m) s (s.pc + 2)
       { machParts s.params.storage with gr := creg m :: (machParts s.params.storage).gr }
       (fun t => t.getMach = s.read32 a ∧ t.getMacl = s.getMacl ∧ t.g (creg m) = sext64 (s.r m + 4)) ∧
     Runs (.cLdsLMacl m) s (s.pc + 2)
       { maclParts s.params.storage with gr := creg m :: (maclParts s.params.storage).gr }
       (fun t => t.getMacl = s.read32 a ∧ t.getMach = s.getMach ∧ t.g (creg m) = sext64 (s.r m + 4)) ∧
     Runs (.cLdsLPr m) s (s.pc + 2)
       { prParts s.params.storage with gr := creg m :: (prParts s.params.storage).gr }
       (fun t => t.getPr = s.read32 a ∧ t.g (creg m) = sext64 (s.r m + 4)) ∧
     Runs (.cLdsLFpscr m) s (s.pc + 2) { gr := [creg m], fpscr := true }
       (fun t => t.fpscr.toNat = (s.read32 a).toNat % 2 ^ 22 ∧ t.g (creg m) = sext64 (s.r m + 4)) ∧
     Runs (.cLdsLFpul m) s (s.pc + 2) { fpulParts s.params.storage with gr := [creg m] }
       (fun t => t.getFpul = s.read32 a ∧ t.g (creg m) = sext64 (s.r m + 4))) ∧
  (∀ (s : State) (n : CReg) (a : Quad), a = sext64 (s.r n - 4) → s.writeFault a 4 = none →
     Runs (.cStcLGbr n) s (s.pc + 2) { gr := [creg n], mem := bytesFrom a 4 }
       (fun t => t.read32 a = s.getGbr ∧ t.g (creg n) = a) ∧
     Runs (.cStcLVbr n) s (s.pc + 2) { gr := [creg n], mem := bytesFrom a 4 }
       (fun t => t.read32 a = s.vbr ∧ t.g (creg n) = a) ∧
     Runs (.cStsLMach n) s (s.pc + 2) { gr := [creg n], mem := bytesFrom a 4 }
       (fun t => t.read32 a = s.getMach ∧ t.g (creg n) = a) ∧
     Runs (.cStsLMacl n) s (s.pc + 2) { gr := [creg n], mem := bytesFrom a 4 }
       (fun t => t.read32 a = s.getMacl ∧ t.g (creg n) = a) ∧
     Runs (.cStsLPr n) s (s.pc + 2) { gr := [creg n], mem := bytesFrom a 4 }
       (fun t => t.read32 a = s.getPr ∧ t.g (creg n) = a) ∧
     Runs (.cStsLFpscr n) s (s.pc + 2) { gr := [creg n], mem := bytesFrom a 4 }
       (fun t => t.read32 a = s.fpscr ∧ t.g (creg n) = a) ∧
     Runs (.cStsLFpul n) s (s.pc + 2) { gr := [creg n], mem := bytesFrom a 4 }
       (fun t => t.read32 a = s.getFpul ∧ t.g (creg n) = a))

/-! ### Compact data transfers (spec 41) -/

/-- 41 R312 to R314, R318 to R323, R325 to R327: the loads without a register side effect, when the access at the address the
rule gives does not fault. Bytes and words are read as signed. -/
def Obligations.CompactLoads : Prop :=
  ∀ (s : State) (m n : CReg) (d4 : BitVec 4) (d8 : BitVec 8) (a : Quad),
    (a = sext64 (s.r m) →
      (s.readFault a 1 = none → PutsR (.cMovBLoad m n) s n (BitVec.ofInt 32 (s.read8 a).toInt)) ∧
      (s.readFault a 2 = none → PutsR (.cMovWLoad m n) s n (BitVec.ofInt 32 (s.read16 a).toInt)) ∧
      (s.readFault a 4 = none → PutsR (.cMovLLoad m n) s n (s.read32 a))) ∧
    (a = sext64 (s.r 0 + s.r m) →
      (s.readFault a 1 = none → PutsR (.cMovBLoadIdx m n) s n (BitVec.ofInt 32 (s.read8 a).toInt)) ∧
      (s.readFault a 2 = none → PutsR (.cMovWLoadIdx m n) s n (BitVec.ofInt 32 (s.read16 a).toInt)) ∧
      (s.readFault a 4 = none → PutsR (.cMovLLoadIdx m n) s n (s.read32 a))) ∧
    (a = sext64 (s.r m + BitVec.ofNat 32 d4.toNat) → s.readFault a 1 = none →
      PutsR (.cMovBLoadDisp m d4) s 0 (BitVec.ofInt 32 (s.read8 a).toInt)) ∧
    (a = sext64 (s.r m + BitVec.ofNat 32 (d4.toNat * 2)) → s.readFault a 2 = none →
      PutsR (.cMovWLoadDisp m d4) s 0 (BitVec.ofInt 32 (s.read16 a).toInt)) ∧
    (a = sext64 (s.r m + BitVec.ofNat 32 (d4.toNat * 4)) → s.readFault a 4 = none →
      PutsR (.cMovLLoadDisp m d4 n) s n (s.read32 a)) ∧
    (a = sext64 (s.getGbr + BitVec.ofNat 32 d8.toNat) → s.readFault a 1 = none →
      PutsR (.cMovBLoadGbr d8) s 0 (BitVec.ofInt 32 (s.read8 a).toInt)) ∧
    (a = sext64 (s.getGbr + BitVec.ofNat 32 (d8.toNat * 2)) → s.readFault a 2 = none →
      PutsR (.cMovWLoadGbr d8) s 0 (BitVec.ofInt 32 (s.read16 a).toInt)) ∧
    (a = sext64 (s.getGbr + BitVec.ofNat 32 (d8.toNat * 4)) → s.readFault a 4 = none →
      PutsR (.cMovLLoadGbr d8) s 0 (s.read32 a))

/-- 40 R250, 41 R310, R311, R315 to R317, R324, R328, R329: the other loads, when no access faults. With base and destination
the same register the loaded value wins. -/
def Obligations.CompactLoadsOther : Prop :=
  ∀ (s : State) (m n : CReg) (d8 : BitVec 8) (d12 : BitVec 12) (a : Quad),
    (a = sext64 (low32 s.pc + 4 + BitVec.ofNat 32 (d8.toNat * 2)) → s.readFault a 2 = none →
      PutsR (.cMovWLoadPc d8 n) s n (BitVec.ofInt 32 (s.read16 a).toInt)) ∧
    (a = sext64 (BitVec.ofNat 32 ((low32 s.pc).toNat / 4 * 4 + 4 + d8.toNat * 4)) → s.readFault a 4 = none →
      PutsR (.cMovLLoadPc d8 n) s n (s.read32 a)) ∧
    (a = sext64 (s.getGbr + s.r 0) → s.readFault a 1 = none →
      PutsT (.cTstB d8) s (decide (s.read8 a &&& d8 = 0))) ∧
    (d12.toNat < 2 ^ 11 → a = sext64 (s.r m + BitVec.ofNat 32 (d12.toNat * 4)) → s.readFault a 4 = none →
      Runs (.cMovLLoadDisp12 m d12 n) s (s.pc + 4) { gr := [creg n] }
        (fun t => t.g (creg n) = sext64 (s.read32 a))) ∧
    (a = sext64 (s.r m) →
      (s.readFault a 1 = none → Runs (.cMovBLoadInc m n) s (s.pc + 2) { gr := [creg m, creg n] } (fun t =>
        t.g (creg n) = BitVec.ofInt 64 (s.read8 a).toInt ∧ (n ≠ m → t.g (creg m) = sext64 (s.r m + 1)))) ∧
      (s.readFault a 2 = none → Runs (.cMovWLoadInc m n) s (s.pc + 2) { gr := [creg m, creg n] } (fun t =>
        t.g (creg n) = BitVec.ofInt 64 (s.read16 a).toInt ∧ (n ≠ m → t.g (creg m) = sext64 (s.r m + 2)))) ∧
      (s.readFault a 4 = none → Runs (.cMovLLoadInc m n) s (s.pc + 2) { gr := [creg m, creg n] } (fun t =>
        t.g (creg n) = BitVec.ofInt 64 (s.read32 a).toInt ∧ (n ≠ m → t.g (creg m) = sext64 (s.r m + 4)))) ∧
      ((∀ x ∈ bytesFrom a 4, canRead s.params x = true) →
        PutsR (.cMovuaL m) s 0 (s.read32 a) ∧
        Runs (.cMovuaLInc m) s (s.pc + 2) { gr := [creg m, 0] } (fun t =>
          t.g 0 = sext64 (s.read32 a) ∧ (m ≠ 0 → t.g (creg m) = sext64 (s.r m + 4)))))

/-- 41 R330 to R332, R336 to R341, R343 to R345: the stores without a register side effect, when the access at the address the
rule gives does not fault. -/
def Obligations.CompactStores : Prop :=
  ∀ (s : State) (m n : CReg) (d4 : BitVec 4) (d8 : BitVec 8) (a : Quad),
    (a = sext64 (s.r n) →
      (s.writeFault a 1 = none → Runs (.cMovBStore m n) s (s.pc + 2) { mem := bytesFrom a 1 }
        (fun t => t.read8 a = (s.r m).extractLsb' 0 8)) ∧
      (s.writeFault a 2 = none → Runs (.cMovWStore m n) s (s.pc + 2) { mem := bytesFrom a 2 }
        (fun t => t.read16 a = (s.r m).extractLsb' 0 16)) ∧
      (s.writeFault a 4 = none → Runs (.cMovLStore m n) s (s.pc + 2) { mem := bytesFrom a 4 }
        (fun t => t.read32 a = s.r m))) ∧
    (a = sext64 (s.r 0 + s.r n) →
      (s.writeFault a 1 = none → Runs (.cMovBStoreIdx m n) s (s.pc + 2) { mem := bytesFrom a 1 }
        (fun t => t.read8 a = (s.r m).extractLsb' 0 8)) ∧
      (s.writeFault a 2 = none → Runs (.cMovWStoreIdx m n) s (s.pc + 2) { mem := bytesFrom a 2 }
        (fun t => t.read16 a = (s.r m).extractLsb' 0 16)) ∧
      (s.writeFault a 4 = none → Runs (.cMovLStoreIdx m n) s (s.pc + 2) { mem := bytesFrom a 4 }
        (fun t => t.read32 a = s.r m))) ∧
    (a = sext64 (s.r n + BitVec.ofNat 32 d4.toNat) → s.writeFault a 1 = none →
      Runs (.cMovBStoreDisp d4 n) s (s.pc + 2) { mem := bytesFrom a 1 }
        (fun t => t.read8 a = (s.r 0).extractLsb' 0 8)) ∧
    (a = sext64 (s.r n + BitVec.ofNat 32 (d4.toNat * 2)) → s.writeFault a 2 = none →
      Runs (.cMovWStoreDisp d4 n) s (s.pc + 2) { mem := bytesFrom a 2 }
        (fun t => t.read16 a = (s.r 0).extractLsb' 0 16)) ∧
    (a = sext64 (s.r n + BitVec.ofNat 32 (d4.toNat * 4)) → s.writeFault a 4 = none →
      Runs (.cMovLStoreDisp m d4 n) s (s.pc + 2) { mem := bytesFrom a 4 } (fun t => t.read32 a = s.r m)) ∧
    (a = sext64 (s.getGbr + BitVec.ofNat 32 d8.toNat) → s.writeFault a 1 = none →
      Runs (.cMovBStoreGbr d8) s (s.pc + 2) { mem := bytesFrom a 1 }
        (fun t => t.read8 a = (s.r 0).extractLsb' 0 8)) ∧
    (a = sext64 (s.getGbr + BitVec.ofNat 32 (d8.toNat * 2)) → s.writeFault a 2 = none →
      Runs (.cMovWStoreGbr d8) s (s.pc + 2) { mem := bytesFrom a 2 }
        (fun t => t.read16 a = (s.r 0).extractLsb' 0 16)) ∧
    (a = sext64 (s.getGbr + BitVec.ofNat 32 (d8.toNat * 4)) → s.writeFault a 4 = none →
      Runs (.cMovLStoreGbr d8) s (s.pc + 2) { mem := bytesFrom a 4 } (fun t => t.read32 a = s.r 0))

/-- 40 R242, R246, R247, R253, 41 R333 to R335, R342, R346: the other stores, when no access faults. With `m = n` a
pre-decrement store writes the register's old value. -/
def Obligations.CompactStoresOther : Prop :=
  ∀ (s : State) (m n : CReg) (d8 : BitVec 8) (d12 : BitVec 12) (a : Quad),
    (a = sext64 (s.r n - 1) → s.writeFault a 1 = none →
      Runs (.cMovBStoreDec m n) s (s.pc + 2) { gr := [creg n], mem := bytesFrom a 1 }
        (fun t => t.read8 a = (s.r m).extractLsb' 0 8 ∧ t.g (creg n) = a)) ∧
    (a = sext64 (s.r n - 2) → s.writeFault a 2 = none →
      Runs (.cMovWStoreDec m n) s (s.pc + 2) { gr := [creg n], mem := bytesFrom a 2 }
        (fun t => t.read16 a = (s.r m).extractLsb' 0 16 ∧ t.g (creg n) = a)) ∧
    (a = sext64 (s.r n - 4) → s.writeFault a 4 = none →
      Runs (.cMovLStoreDec m n) s (s.pc + 2) { gr := [creg n], mem := bytesFrom a 4 }
        (fun t => t.read32 a = s.r m ∧ t.g (creg n) = a)) ∧
    (d12.toNat < 2 ^ 11 → a = sext64 (s.r n + BitVec.ofNat 32 (d12.toNat * 4)) → s.writeFault a 4 = none →
      Runs (.cMovLStoreDisp12 m d12 n) s (s.pc + 4) { mem := bytesFrom a 4 } (fun t => t.read32 a = s.r m)) ∧
    (a = sext64 (s.r n) → s.writeFault a 4 = none →
      Runs (.cMovcaL n) s (s.pc + 2) { mem := bytesFrom a 4 } (fun t => t.read32 a = s.r 0)) ∧
    (a = sext64 (s.r n) → s.readFault a 1 = none → s.writeFault a 1 = none →
      Runs (.cTasB n) s (s.pc + 2) { sr := 1, mem := bytesFrom a 1 }
        (fun t => t.flagT = decide (s.read8 a = 0) ∧ t.read8 a = s.read8 a ||| 0x80)) ∧
    (a = sext64 (s.getGbr + s.r 0) → s.readFault a 1 = none → s.writeFault a 1 = none →
      Runs (.cAndB d8) s (s.pc + 2) { mem := bytesFrom a 1 } (fun t => t.read8 a = s.read8 a &&& d8) ∧
      Runs (.cOrB d8) s (s.pc + 2) { mem := bytesFrom a 1 } (fun t => t.read8 a = s.read8 a ||| d8) ∧
      Runs (.cXorB d8) s (s.pc + 2) { mem := bytesFrom a 1 } (fun t => t.read8 a = s.read8 a ^^^ d8))

/-! ### Compact control flow, hints, traps and refusals (spec 41, 42, 46, 47) -/

/-- 42 R375 to R385: the branches. A delayed one records its target and goes on to the slot at PC + 2; the calls write PR. -/
def Obligations.CompactBranches : Prop :=
  ∀ (s : State) (m : CReg) (d8 : BitVec 8) (d12 : BitVec 12) (t8 t12 trel treg : Quad) (link : Word),
    t8 = sext64 (BitVec.ofInt 32 ((low32 s.pc).toNat + 4 + d8.toInt * 2)) →
    t12 = sext64 (BitVec.ofInt 32 ((low32 s.pc).toNat + 4 + d12.toInt * 2)) →
    trel = sext64 (BitVec.ofNat 32 ((low32 s.pc).toNat + 4 + (s.r m).toNat)) →
    treg = sext64 (s.r m) →
    link = BitVec.ofNat 32 ((low32 s.pc).toNat + 4) →
    Runs (.cBf d8) s (if s.flagT = false then t8 else s.pc + 2) {} (fun _ => True) ∧
    Runs (.cBt d8) s (if s.flagT = true then t8 else s.pc + 2) {} (fun _ => True) ∧
    Runs (.cBfS d8) s (s.pc + 2) { pending := true }
      (fun t => t.pending = some ⟨if s.flagT = false then t8 else s.pc + 4, false⟩) ∧
    Runs (.cBtS d8) s (s.pc + 2) { pending := true }
      (fun t => t.pending = some ⟨if s.flagT = true then t8 else s.pc + 4, false⟩) ∧
    Runs (.cBra d12) s (s.pc + 2) { pending := true } (fun t => t.pending = some ⟨t12, false⟩) ∧
    Runs (.cBraf m) s (s.pc + 2) { pending := true } (fun t => t.pending = some ⟨trel, true⟩) ∧
    Runs (.cBsr d12) s (s.pc + 2) { prParts s.params.storage with pending := true }
      (fun t => t.pending = some ⟨t12, false⟩ ∧ t.getPr = link) ∧
    Runs (.cBsrf m) s (s.pc + 2) { prParts s.params.storage with pending := true }
      (fun t => t.pending = some ⟨trel, true⟩ ∧ t.getPr = link) ∧
    Runs (.cJmp m) s (s.pc + 2) { pending := true } (fun t => t.pending = some ⟨treg, true⟩) ∧
    Runs (.cJsr m) s (s.pc + 2) { prParts s.params.storage with pending := true }
      (fun t => t.pending = some ⟨treg, true⟩ ∧ t.getPr = link) ∧
    Runs .cRts s (s.pc + 2) { pending := true } (fun t => t.pending = some ⟨sext64 s.getPr, true⟩)

/-- 42 R391, R413 to R418, 46 R664 to R669, 47 R699, R700, R703 to R705, 60 R853: a trap instruction advances PC, reports its code
with the tagged address of the next instruction, and changes nothing else; `nop`, the cache operations and the barriers change
nothing but PC, whatever the registers hold. -/
def Obligations.TrapsHintsAndBarriers : Prop :=
  ∀ (s : State) (imm : BitVec 8) (m : MReg) (k : CReg) (u : BitVec 6),
    (∀ (i : Instr) (code : TrapCode) (size : Quad),
      (i = .cTrapa imm ∧ code = .trapa (BitVec.ofNat 64 imm.toNat) ∧ size = 2 ∨ i = .cBrk ∧ code = .brk ∧ size = 2 ∨
        i = .mTrapa m ∧ code = .trapa (s.g m) ∧ size = 4 ∨ i = .mBrk ∧ code = .brk ∧ size = 4) →
      ∃ t, exec i s = .next t ∧ t.pc = s.pc + size ∧ t.dstate = .trapped ∧
        t.event = .explicitTrap code t.taggedPC ∧ Keeps {} s t) ∧
    (∀ i ∈ ([.cNop, .cPref k, .cOcbi k, .cOcbp k, .cOcbwb k] : List Instr), OnlyAdvances i s 2) ∧
    (∀ i ∈ ([.mPrefi m u, .mAlloco m u, .mIcbi m u, .mOcbp m u, .mOcbi m u, .mOcbwb m u, .mSynci, .mSynco,
      .mNop] : List Instr), OnlyAdvances i s 4)

/-- 41 R304, R347, R348, 46 R670, R671, 47 R701, R702, 60 R856: the refused instructions, and movco.l and movli.l under
`MOVCO_MODE = placeholder`. That a `refused` mark which is already set stays, and that its pc is the tagged one, is the model's
reading of 60 R856: log 13 (DEDUCED). -/
def Obligations.RefusedInstructions : Prop :=
  ∀ (s : State) (k : CReg) (m d : MReg) (imm : BitVec 6) (r n : CReg) (q : BitVec 3) (disp : BitVec 12),
    (s.params.movco = .refuse → IsRefused (.cMovcoL k) s .movco ∧ IsRefused (.cMovliL k) s .movli) ∧
    (s.params.movco = .placeholder → OnlyAdvances (.cMovcoL k) s 2 ∧ OnlyAdvances (.cMovliL k) s 2) ∧
    IsRefused .mRte s .exceptionReturn ∧ IsRefused .mSleep s .powerState ∧
    IsRefused (.mGetcfg m imm d) s .configSpace ∧ IsRefused (.mPutcfg m imm d) s .configSpace ∧
    (disp.getLsbD 11 = true →
      IsRefused (.cMovLLoadDisp12 r disp n) s .disp12 ∧ IsRefused (.cMovLStoreDisp12 r disp n) s .disp12 ∧
      IsRefused (.cFmovLoadDisp12 r disp q) s .disp12 ∧ IsRefused (.cFmovStoreDisp12 q disp n) s .disp12)

/-! ### Compact floating point (spec 43) -/

/-- 10 R50, R52, R53: the physical numbers of the compact FP views, for each value of FPSCR.FR, and the value of each. -/
def Obligations.CompactFpViews : Prop :=
  ∀ (s : State) (n : CReg),
    (s.bank n).toNat = 16 * s.fpFR.toNat + n.toNat ∧
    (s.otherBank n).toNat = 16 * (1 - s.fpFR.toNat) + n.toNat ∧
    s.cf n = s.fr.getD (16 * s.fpFR.toNat + n.toNat) 0 ∧
    (n.toNat % 2 = 0 → s.cd n = s.cf n ++ s.cf (n + 1) ∧ s.fmovBase n = s.bank n) ∧
    (n.toNat % 2 = 1 → s.fmovBase n = s.otherBank (n - 1))

/-- 43 R435 to R444: the arithmetic and the comparisons under each value of FPSCR.PR that admits them. -/
def Obligations.CompactFpArithmetic : Prop :=
  ∀ (s : State) (m n : CReg),
    (s.fpPR = false →
      PutsF (.cFabs n) s 2 (s.bank n) (fAbs32 (s.cf n)) ∧
      PutsF (.cFneg n) s 2 (s.bank n) (fNeg32 (s.cf n)) ∧
      PutsF (.cFadd m n) s 2 (s.bank n) (fAdd32 (s.cf n) (s.cf m)) ∧
      PutsF (.cFsub m n) s 2 (s.bank n) (fSub32 (s.cf n) (s.cf m)) ∧
      PutsF (.cFmul m n) s 2 (s.bank n) (fMul32 (s.cf n) (s.cf m)) ∧
      PutsF (.cFdiv m n) s 2 (s.bank n) (fDiv32 (s.cf n) (s.cf m)) ∧
      PutsF (.cFsqrt n) s 2 (s.bank n) (fSqrt32 (s.cf n)) ∧
      PutsF (.cFmac m n) s 2 (s.bank n) (fMulAdd32 (s.cf 0) (s.cf m) (s.cf n)) ∧
      PutsT (.cFcmpEq m n) s (fCmpEq32 (s.cf n) (s.cf m)) ∧
      PutsT (.cFcmpGt m n) s (fCmpGt32 (s.cf n) (s.cf m))) ∧
    (s.fpPR = true → n.toNat % 2 = 0 →
      PutsD (.cFabs n) s 2 (s.bank n) (fAbs64 (s.cd n)) ∧
      PutsD (.cFneg n) s 2 (s.bank n) (fNeg64 (s.cd n)) ∧
      PutsD (.cFsqrt n) s 2 (s.bank n) (fSqrt64 (s.cd n)) ∧
      (m.toNat % 2 = 0 →
        PutsD (.cFadd m n) s 2 (s.bank n) (fAdd64 (s.cd n) (s.cd m)) ∧
        PutsD (.cFsub m n) s 2 (s.bank n) (fSub64 (s.cd n) (s.cd m)) ∧
        PutsD (.cFmul m n) s 2 (s.bank n) (fMul64 (s.cd n) (s.cd m)) ∧
        PutsD (.cFdiv m n) s 2 (s.bank n) (fDiv64 (s.cd n) (s.cd m)) ∧
        PutsT (.cFcmpEq m n) s (fCmpEq64 (s.cd n) (s.cd m)) ∧
        PutsT (.cFcmpGt m n) s (fCmpGt64 (s.cd n) (s.cd m))))

/-- 43 R445 to R452, R455, R456: constants, FPUL transfers, conversions and the two mode switches. -/
def Obligations.CompactFpTransfers : Prop :=
  ∀ (s : State) (n : CReg) (q : BitVec 3),
    PutsF (.cFsts n) s 2 (s.bank n) s.getFpul ∧
    Runs (.cFlds n) s (s.pc + 2) (fpulParts s.params.storage) (fun t => t.getFpul = s.cf n) ∧
    (s.fpPR = false →
      PutsF (.cFldi0 n) s 2 (s.bank n) 0 ∧
      PutsF (.cFldi1 n) s 2 (s.bank n) 0x3F800000 ∧
      PutsF (.cFloat n) s 2 (s.bank n) (fCvtI32toF32 s.getFpul) ∧
      Runs (.cFtrc n) s (s.pc + 2) (fpulParts s.params.storage) (fun t => t.getFpul = fCvtF32toI32 (s.cf n)) ∧
      Runs .cFrchg s (s.pc + 2) { fpscr := true } (fun t => t.fpFR = !s.fpFR ∧
        ∀ k, k ≠ 21 → t.fpscr.getLsbD k = s.fpscr.getLsbD k) ∧
      Runs .cFschg s (s.pc + 2) { fpscr := true } (fun t => t.fpSZ = !s.fpSZ ∧
        ∀ k, k ≠ 20 → t.fpscr.getLsbD k = s.fpscr.getLsbD k)) ∧
    (s.fpPR = true →
      (n.toNat % 2 = 0 → PutsD (.cFloat n) s 2 (s.bank n) (fCvtI32toF64 s.getFpul) ∧
        Runs (.cFtrc n) s (s.pc + 2) (fpulParts s.params.storage) (fun t => t.getFpul = fCvtF64toI32 (s.cd n))) ∧
      PutsD (.cFcnvsd q) s 2 (s.bank (q ++ 0#1)) (fCvtF32toF64 s.getFpul) ∧
      Runs (.cFcnvds q) s (s.pc + 2) (fpulParts s.params.storage)
        (fun t => t.getFpul = fCvtF64toF32 (s.cd (q ++ 0#1))))

/-- 43 R453, R454, R457 to R465: vectors, the FMOV view, and the transfers with memory, when no access faults. A pair has its high
half at the lower address; with `MISALIGNED = fault` its address is a multiple of 8. -/
def Obligations.CompactFpVectorsAndMoves : Prop :=
  ∀ (s : State) (m n r : CReg) (p q : BitVec 2) (e : BitVec 3) (d12 : BitVec 12) (a : Quad),
    (s.fpPR = false →
      PutsF (.cFipr p q) s 2 (s.bank (q ++ 3#2))
        (fDot4 (four (s.cf (p ++ 0#2)) (s.cf (p ++ 1#2)) (s.cf (p ++ 2#2)) (s.cf (p ++ 3#2)))
          (four (s.cf (q ++ 0#2)) (s.cf (q ++ 1#2)) (s.cf (q ++ 2#2)) (s.cf (q ++ 3#2)))) ∧
      Runs (.cFtrv q) s (s.pc + 2)
        { fr := [s.bank (q ++ 0#2), s.bank (q ++ 1#2), s.bank (q ++ 2#2), s.bank (q ++ 3#2)] } (fun t =>
          ∀ k : BitVec 2, t.cf (q ++ k) = fMtrx (Vector.ofFn fun j => s.f (s.otherBank (BitVec.ofNat 4 j.val)))
            (four (s.cf (q ++ 0#2)) (s.cf (q ++ 1#2)) (s.cf (q ++ 2#2)) (s.cf (q ++ 3#2))) k.toNat)) ∧
    (s.fpSZ = false → PutsF (.cFmov m n) s 2 (s.bank n) (s.cf m)) ∧
    (s.fpSZ = true → PutsD (.cFmov m n) s 2 (s.fmovBase n) (s.d (s.fmovBase m))) ∧
    (s.fpSZ = false → s.readFault a 4 = none →
      (a = sext64 (s.r r) → PutsF (.cFmovLoad r n) s 2 (s.bank n) (s.read32 a) ∧
        Runs (.cFmovLoadInc r n) s (s.pc + 2) { gr := [creg r], fr := [s.bank n] }
          (fun t => t.f (s.bank n) = s.read32 a ∧ t.g (creg r) = sext64 (s.r r + 4))) ∧
      (a = sext64 (s.r 0 + s.r r) → PutsF (.cFmovLoadIdx r n) s 2 (s.bank n) (s.read32 a))) ∧
    (s.fpSZ = false → s.writeFault a 4 = none →
      (a = sext64 (s.r r) → Runs (.cFmovStore m r) s (s.pc + 2) { mem := bytesFrom a 4 }
        (fun t => t.read32 a = s.cf m)) ∧
      (a = sext64 (s.r r - 4) → Runs (.cFmovStoreDec m r) s (s.pc + 2) { gr := [creg r], mem := bytesFrom a 4 }
        (fun t => t.read32 a = s.cf m ∧ t.g (creg r) = a)) ∧
      (a = sext64 (s.r 0 + s.r r) → Runs (.cFmovStoreIdx m r) s (s.pc + 2) { mem := bytesFrom a 4 }
        (fun t => t.read32 a = s.cf m))) ∧
    ((s.params.misaligned = .fault → a.toNat % 8 = 0) → s.readFault a 4 = none → s.readFault (a + 4) 4 = none →
      (s.fpSZ = true → a = sext64 (s.r r) →
        PutsD (.cFmovLoad r n) s 2 (s.fmovBase n) (s.read32 a ++ s.read32 (a + 4)) ∧
        Runs (.cFmovLoadInc r n) s (s.pc + 2) { gr := [creg r], fr := [s.fmovBase n, s.fmovBase n + 1] } (fun t =>
          t.f (s.fmovBase n) = s.read32 a ∧ t.f (s.fmovBase n + 1) = s.read32 (a + 4) ∧
          t.g (creg r) = sext64 (s.r r + 8))) ∧
      (s.fpSZ = true → a = sext64 (s.r 0 + s.r r) →
        PutsD (.cFmovLoadIdx r n) s 2 (s.fmovBase n) (s.read32 a ++ s.read32 (a + 4))) ∧
      (d12.toNat < 2 ^ 11 → a = sext64 (s.r r + BitVec.ofNat 32 (d12.toNat * 8)) →
        PutsD (.cFmovLoadDisp12 r d12 e) s 4 (s.bank (e ++ 0#1)) (s.read32 a ++ s.read32 (a + 4)))) ∧
    ((s.params.misaligned = .fault → a.toNat % 8 = 0) → s.writeFault a 4 = none → s.writeFault (a + 4) 4 = none →
      (s.fpSZ = true → a = sext64 (s.r r) →
        Runs (.cFmovStore m r) s (s.pc + 2) { mem := bytesFrom a 8 } (fun t =>
          t.read32 a = s.f (s.fmovBase m) ∧ t.read32 (a + 4) = s.f (s.fmovBase m + 1))) ∧
      (s.fpSZ = true → a = sext64 (s.r r - 8) →
        Runs (.cFmovStoreDec m r) s (s.pc + 2) { gr := [creg r], mem := bytesFrom a 8 } (fun t =>
          t.read32 a = s.f (s.fmovBase m) ∧ t.read32 (a + 4) = s.f (s.fmovBase m + 1) ∧ t.g (creg r) = a)) ∧
      (s.fpSZ = true → a = sext64 (s.r 0 + s.r r) →
        Runs (.cFmovStoreIdx m r) s (s.pc + 2) { mem := bytesFrom a 8 } (fun t =>
          t.read32 a = s.f (s.fmovBase m) ∧ t.read32 (a + 4) = s.f (s.fmovBase m + 1))) ∧
      (d12.toNat < 2 ^ 11 → a = sext64 (s.r r + BitVec.ofNat 32 (d12.toNat * 8)) →
        Runs (.cFmovStoreDisp12 e d12 r) s (s.pc + 4) { mem := bytesFrom a 8 } (fun t =>
          t.read32 a = s.cf (e ++ 0#1) ∧ t.read32 (a + 4) = s.cf (e ++ 1#1))))

/-! ### Media integer instructions (spec 44) -/

/-- 44 R503 to R514: sums, differences and logic; a write to R63 is discarded. -/
def Obligations.MediaAddAndLogic : Prop :=
  ∀ (s : State) (m n d : MReg) (imm : BitVec 10),
    PutsG (.mAdd m n d) s d (BitVec.ofNat 64 ((s.g m).toNat + (s.g n).toNat)) ∧
    PutsG (.mAddL m n d) s d (sext64 (BitVec.ofNat 32 ((s.g m).toNat + (s.g n).toNat))) ∧
    PutsG (.mAddi m imm d) s d (BitVec.ofInt 64 ((s.g m).toInt + imm.toInt)) ∧
    PutsG (.mAddiL m imm d) s d (sext64 (BitVec.ofInt 32 ((s.g m).toInt + imm.toInt))) ∧
    PutsG (.mAddzL m n d) s d (BitVec.ofNat 64 (((s.g m).toNat + (s.g n).toNat) % 2 ^ 32)) ∧
    PutsG (.mSub m n d) s d (BitVec.ofInt 64 ((s.g m).toInt - (s.g n).toInt)) ∧
    PutsG (.mSubL m n d) s d (sext64 (BitVec.ofInt 32 ((s.g m).toInt - (s.g n).toInt))) ∧
    (∃ v, PutsG (.mAnd m n d) s d v ∧ ∀ k, v.getLsbD k = ((s.g m).getLsbD k && (s.g n).getLsbD k)) ∧
    (∃ v, PutsG (.mAndc m n d) s d v ∧ ∀ k, v.getLsbD k = ((s.g m).getLsbD k && !(s.g n).getLsbD k)) ∧
    PutsG (.mAndi m imm d) s d (s.g m &&& BitVec.ofInt 64 imm.toInt) ∧
    (∃ v, PutsG (.mOr m n d) s d v ∧ ∀ k, v.getLsbD k = ((s.g m).getLsbD k || (s.g n).getLsbD k)) ∧
    PutsG (.mOri m imm d) s d (s.g m ||| BitVec.ofInt 64 imm.toInt)

/-- 44 R515 to R525: exclusive or, compares, conditional moves, sign bits, byte reversal and multiplies. -/
def Obligations.MediaCompareMoveMultiply : Prop :=
  ∀ (s : State) (m n d : MReg) (imm : BitVec 6),
    (∃ v, PutsG (.mXor m n d) s d v ∧ ∀ k, v.getLsbD k = ((s.g m).getLsbD k ^^ (s.g n).getLsbD k)) ∧
    PutsG (.mXori m imm d) s d (s.g m ^^^ BitVec.ofInt 64 imm.toInt) ∧
    PutsG (.mCmpeq m n d) s d (if s.g m = s.g n then 1 else 0) ∧
    PutsG (.mCmpgt m n d) s d (if (s.g m).toInt > (s.g n).toInt then 1 else 0) ∧
    PutsG (.mCmpgtu m n d) s d (if (s.g m).toNat > (s.g n).toNat then 1 else 0) ∧
    PutsG (.mCmveq m n d) s d (if s.g m = 0 then s.g n else s.g d) ∧
    PutsG (.mCmvne m n d) s d (if s.g m ≠ 0 then s.g n else s.g d) ∧
    (∃ c : Nat, PutsG (.mNsb m d) s d (BitVec.ofNat 64 c) ∧ c < 64 ∧
      (∀ j, j ≤ c → (s.g m).getLsbD (63 - j) = (s.g m).msb) ∧ (c < 63 → (s.g m).getLsbD (62 - c) ≠ (s.g m).msb)) ∧
    (∃ v, PutsG (.mByterev m d) s d v ∧ ∀ j, j < 8 → byteAt v j = byteAt (s.g m) (7 - j)) ∧
    PutsG (.mMuluL m n d) s d (BitVec.ofNat 64 ((s.g m).toNat % 2 ^ 32 * ((s.g n).toNat % 2 ^ 32))) ∧
    PutsG (.mMulsL m n d) s d (BitVec.ofInt 64 ((low32 (s.g m)).toInt * (low32 (s.g n)).toInt))

/-- 44 R526 to R537: the shifts, as products and quotients by powers of two. -/
def Obligations.MediaShifts : Prop :=
  ∀ (s : State) (m n d : MReg) (imm : BitVec 6),
    PutsG (.mShlld m n d) s d (BitVec.ofNat 64 ((s.g m).toNat * 2 ^ ((s.g n).toNat % 64))) ∧
    PutsG (.mShlldL m n d) s d (sext64 (BitVec.ofNat 32 ((s.g m).toNat * 2 ^ ((s.g n).toNat % 32)))) ∧
    PutsG (.mShlrd m n d) s d (BitVec.ofNat 64 ((s.g m).toNat / 2 ^ ((s.g n).toNat % 64))) ∧
    PutsG (.mShlrdL m n d) s d (sext64 (BitVec.ofNat 32 ((s.g m).toNat % 2 ^ 32 / 2 ^ ((s.g n).toNat % 32)))) ∧
    PutsG (.mShard m n d) s d (BitVec.ofInt 64 ((s.g m).toInt / 2 ^ ((s.g n).toNat % 64))) ∧
    PutsG (.mShardL m n d) s d (BitVec.ofInt 64 ((low32 (s.g m)).toInt / 2 ^ ((s.g n).toNat % 32))) ∧
    PutsG (.mShlli m imm d) s d (BitVec.ofNat 64 ((s.g m).toNat * 2 ^ imm.toNat)) ∧
    PutsG (.mShlliL m imm d) s d (sext64 (BitVec.ofNat 32 ((s.g m).toNat * 2 ^ (imm.toNat % 32)))) ∧
    PutsG (.mShlri m imm d) s d (BitVec.ofNat 64 ((s.g m).toNat / 2 ^ imm.toNat)) ∧
    PutsG (.mShlriL m imm d) s d (sext64 (BitVec.ofNat 32 ((s.g m).toNat % 2 ^ 32 / 2 ^ (imm.toNat % 32)))) ∧
    PutsG (.mShari m imm d) s d (BitVec.ofInt 64 ((s.g m).toInt / 2 ^ imm.toNat)) ∧
    PutsG (.mShariL m imm d) s d (BitVec.ofInt 64 ((low32 (s.g m)).toInt / 2 ^ (imm.toNat % 32)))

/-! ### Media control (spec 47) -/

/-- 44 R538, R539, 47 R683 to R687, R697, R698: wide immediates, the prepare instructions, gettr, getcon and putcon. -/
def Obligations.MediaImmediatesTargetsControl : Prop :=
  ∀ (s : State) (m d : MReg) (imm : BitVec 16) (l : BitVec 1) (a : TReg),
    PutsG (.mMovi imm d) s d (BitVec.ofInt 64 imm.toInt) ∧
    PutsG (.mShori imm d) s d (BitVec.ofNat 64 ((s.g d).toNat * 2 ^ 16 + imm.toNat)) ∧
    Runs (.mPta imm l a) s (s.pc + 4) { tr := [a] } (fun t => t.t a = s.pc + BitVec.ofInt 64 (imm.toInt * 4 + 1)) ∧
    Runs (.mPtb imm l a) s (s.pc + 4) { tr := [a] } (fun t => t.t a = s.pc + BitVec.ofInt 64 (imm.toInt * 4)) ∧
    Runs (.mPtabs m l a) s (s.pc + 4) { tr := [a] } (fun t => t.t a = s.g m) ∧
    Runs (.mPtrel m l a) s (s.pc + 4) { tr := [a] } (fun t => t.t a = s.pc + s.g m) ∧
    PutsG (.mGettr a d) s d (s.t a) ∧
    (m ≠ 0 → PutsG (.mGetcon m d) s d (s.c m)) ∧
    PutsG (.mGetcon 0 d) s d (BitVec.ofNat 64 s.sr.toNat) ∧
    (d ≠ 0 → Runs (.mPutcon m d) s (s.pc + 4) { cr := [d] } (fun t => t.c d = s.g m)) ∧
    Runs (.mPutcon m 0) s (s.pc + 4) { sr := 0xFFFFFFFF } (fun t => t.sr = low32 (s.g m) ∧
      t.flagT = (s.g m).getLsbD 0 ∧ t.flagS = (s.g m).getLsbD 1 ∧ t.flagQ = (s.g m).getLsbD 8 ∧
      t.flagM = (s.g m).getLsbD 9)

/-- 47 R688 to R696: blink writes the tagged link and goes to its target; a conditional branch goes to its target, with the mode
of the target's bit 0, exactly when its condition holds, and to PC + 4 otherwise. The likely bit has no effect. -/
def Obligations.MediaBranches : Prop :=
  ∀ (s : State) (m n d : MReg) (imm : BitVec 6) (l : BitVec 1) (a : TReg),
    Runs (.mBlink a d) s (s.t a &&& ~~~1#64) { gr := [d], ism := true } (fun t =>
      t.ism = (if (s.t a).getLsbD 0 then .media else .compact) ∧
      t.g d = if d = 63 then 0 else (s.pc &&& ~~~1#64) + (if s.ism = .media then 5 else 4)) ∧
    ∀ (i : Instr) (c : Prop),
      (i = .mBeq m n l a ∧ (c ↔ s.g m = s.g n) ∨ i = .mBne m n l a ∧ (c ↔ s.g m ≠ s.g n) ∨
        i = .mBge m n l a ∧ (c ↔ (s.g m).toInt ≥ (s.g n).toInt) ∨
        i = .mBgt m n l a ∧ (c ↔ (s.g m).toInt > (s.g n).toInt) ∨
        i = .mBgeu m n l a ∧ (c ↔ (s.g m).toNat ≥ (s.g n).toNat) ∨
        i = .mBgtu m n l a ∧ (c ↔ (s.g m).toNat > (s.g n).toNat) ∨
        i = .mBeqi m imm l a ∧ (c ↔ (s.g m).toInt = imm.toInt) ∨
        i = .mBnei m imm l a ∧ (c ↔ (s.g m).toInt ≠ imm.toInt)) →
      (c → Runs i s (s.t a &&& ~~~1#64) { ism := true }
        (fun t => t.ism = if (s.t a).getLsbD 0 then .media else .compact)) ∧
      (¬c → Runs i s (s.pc + 4) {} (fun _ => True))

/-! ### Media packed instructions (spec 45): lane `j` counts from the least significant end -/

/-- 45 R565 to R586: sums, differences and absolute values, wrapping and saturating, the compares into lane masks, the bitwise
move and the saturating narrowings, lane by lane. -/
def Obligations.MediaPackedAddCompareNarrow : Prop :=
  ∀ (s : State) (m n d : MReg),
    (∃ v, PutsG (.mMaddW m n d) s d v ∧ ∀ j, j < 4 →
      wordAt v j = BitVec.ofNat 16 ((wordAt (s.g m) j).toNat + (wordAt (s.g n) j).toNat)) ∧
    (∃ v, PutsG (.mMaddL m n d) s d v ∧ ∀ j, j < 2 →
      longAt v j = BitVec.ofNat 32 ((longAt (s.g m) j).toNat + (longAt (s.g n) j).toNat)) ∧
    (∃ v, PutsG (.mMaddsUb m n d) s d v ∧ ∀ j, j < 8 →
      (byteAt v j).toNat = min 255 ((byteAt (s.g m) j).toNat + (byteAt (s.g n) j).toNat)) ∧
    (∃ v, PutsG (.mMaddsW m n d) s d v ∧ ∀ j, j < 4 →
      (wordAt v j).toInt = max (-2 ^ 15) (min (2 ^ 15 - 1) ((wordAt (s.g m) j).toInt + (wordAt (s.g n) j).toInt))) ∧
    (∃ v, PutsG (.mMaddsL m n d) s d v ∧ ∀ j, j < 2 →
      (longAt v j).toInt = max (-2 ^ 31) (min (2 ^ 31 - 1) ((longAt (s.g m) j).toInt + (longAt (s.g n) j).toInt))) ∧
    (∃ v, PutsG (.mMsubW m n d) s d v ∧ ∀ j, j < 4 →
      wordAt v j = BitVec.ofInt 16 ((wordAt (s.g m) j).toInt - (wordAt (s.g n) j).toInt)) ∧
    (∃ v, PutsG (.mMsubL m n d) s d v ∧ ∀ j, j < 2 →
      longAt v j = BitVec.ofInt 32 ((longAt (s.g m) j).toInt - (longAt (s.g n) j).toInt)) ∧
    (∃ v, PutsG (.mMsubsUb m n d) s d v ∧ ∀ j, j < 8 →
      (byteAt v j).toNat = (byteAt (s.g m) j).toNat - (byteAt (s.g n) j).toNat) ∧
    (∃ v, PutsG (.mMsubsW m n d) s d v ∧ ∀ j, j < 4 →
      (wordAt v j).toInt = max (-2 ^ 15) (min (2 ^ 15 - 1) ((wordAt (s.g m) j).toInt - (wordAt (s.g n) j).toInt))) ∧
    (∃ v, PutsG (.mMsubsL m n d) s d v ∧ ∀ j, j < 2 →
      (longAt v j).toInt = max (-2 ^ 31) (min (2 ^ 31 - 1) ((longAt (s.g m) j).toInt - (longAt (s.g n) j).toInt))) ∧
    (∃ v, PutsG (.mMabsW m d) s d v ∧ ∀ j, j < 4 →
      (wordAt v j).toInt = min (2 ^ 15 - 1) (|(wordAt (s.g m) j).toInt|)) ∧
    (∃ v, PutsG (.mMabsL m d) s d v ∧ ∀ j, j < 2 →
      (longAt v j).toInt = min (2 ^ 31 - 1) (|(longAt (s.g m) j).toInt|)) ∧
    (∃ v, PutsG (.mMcmpeqB m n d) s d v ∧ ∀ j, j < 8 →
      byteAt v j = if byteAt (s.g m) j = byteAt (s.g n) j then 0xFF else 0) ∧
    (∃ v, PutsG (.mMcmpeqW m n d) s d v ∧ ∀ j, j < 4 →
      wordAt v j = if wordAt (s.g m) j = wordAt (s.g n) j then 0xFFFF else 0) ∧
    (∃ v, PutsG (.mMcmpeqL m n d) s d v ∧ ∀ j, j < 2 →
      longAt v j = if longAt (s.g m) j = longAt (s.g n) j then 0xFFFFFFFF else 0) ∧
    (∃ v, PutsG (.mMcmpgtUb m n d) s d v ∧ ∀ j, j < 8 →
      byteAt v j = if (byteAt (s.g m) j).toNat > (byteAt (s.g n) j).toNat then 0xFF else 0) ∧
    (∃ v, PutsG (.mMcmpgtW m n d) s d v ∧ ∀ j, j < 4 →
      wordAt v j = if (wordAt (s.g m) j).toInt > (wordAt (s.g n) j).toInt then 0xFFFF else 0) ∧
    (∃ v, PutsG (.mMcmpgtL m n d) s d v ∧ ∀ j, j < 2 →
      longAt v j = if (longAt (s.g m) j).toInt > (longAt (s.g n) j).toInt then 0xFFFFFFFF else 0) ∧
    (∃ v, PutsG (.mMcmv m n d) s d v ∧ ∀ k,
      v.getLsbD k = if (s.g n).getLsbD k then (s.g m).getLsbD k else (s.g d).getLsbD k) ∧
    (∃ v, PutsG (.mMcnvsLw m n d) s d v ∧ ∀ j, j < 2 →
      (wordAt v j).toInt = max (-2 ^ 15) (min (2 ^ 15 - 1) (longAt (s.g m) j).toInt) ∧
      (wordAt v (j + 2)).toInt = max (-2 ^ 15) (min (2 ^ 15 - 1) (longAt (s.g n) j).toInt)) ∧
    (∃ v, PutsG (.mMcnvsWb m n d) s d v ∧ ∀ j, j < 4 →
      (byteAt v j).toInt = max (-2 ^ 7) (min (2 ^ 7 - 1) (wordAt (s.g m) j).toInt) ∧
      (byteAt v (j + 4)).toInt = max (-2 ^ 7) (min (2 ^ 7 - 1) (wordAt (s.g n) j).toInt)) ∧
    (∃ v, PutsG (.mMcnvsWub m n d) s d v ∧ ∀ j, j < 4 →
      ((byteAt v j).toNat : Int) = max 0 (min 255 (wordAt (s.g m) j).toInt) ∧
      ((byteAt v (j + 4)).toNat : Int) = max 0 (min 255 (wordAt (s.g n) j).toInt))

/-- 45 R587 to R593, R615 to R620: byte extraction from the pair `Rn : Rm`, and the interleavings, byte by byte. -/
def Obligations.MediaPackedExtractShuffle : Prop :=
  ∀ (s : State) (m n d : MReg),
    (∀ (k : Nat) (i : Instr), (k, i) ∈ ([(1, .mMextr1 m n d), (2, .mMextr2 m n d), (3, .mMextr3 m n d), (4, .mMextr4 m n d),
        (5, .mMextr5 m n d), (6, .mMextr6 m n d), (7, .mMextr7 m n d)] : List (Nat × Instr)) →
      PutsG i s d (BitVec.ofNat 64 (((s.g n).toNat * 2 ^ 64 + (s.g m).toNat) / 2 ^ (8 * k)))) ∧
    (∃ v, PutsG (.mMshfloB m n d) s d v ∧ ∀ j, j < 4 →
      byteAt v (2 * j) = byteAt (s.g m) j ∧ byteAt v (2 * j + 1) = byteAt (s.g n) j) ∧
    (∃ v, PutsG (.mMshfloW m n d) s d v ∧ ∀ j, j < 2 →
      wordAt v (2 * j) = wordAt (s.g m) j ∧ wordAt v (2 * j + 1) = wordAt (s.g n) j) ∧
    (∃ v, PutsG (.mMshfloL m n d) s d v ∧ longAt v 0 = longAt (s.g m) 0 ∧ longAt v 1 = longAt (s.g n) 0) ∧
    (∃ v, PutsG (.mMshfhiB m n d) s d v ∧ ∀ j, j < 4 →
      byteAt v (2 * j) = byteAt (s.g m) (j + 4) ∧ byteAt v (2 * j + 1) = byteAt (s.g n) (j + 4)) ∧
    (∃ v, PutsG (.mMshfhiW m n d) s d v ∧ ∀ j, j < 2 →
      wordAt v (2 * j) = wordAt (s.g m) (j + 2) ∧ wordAt v (2 * j + 1) = wordAt (s.g n) (j + 2)) ∧
    (∃ v, PutsG (.mMshfhiL m n d) s d v ∧ longAt v 0 = longAt (s.g m) 1 ∧ longAt v 1 = longAt (s.g n) 1)

/-- 45 R594 to R605: products, sums of products, the word permutation and the sum of absolute differences, over the integers. -/
def Obligations.MediaPackedMultiply : Prop :=
  ∀ (s : State) (m n d : MReg) (w l : Nat → Int) (c : Int → Int),
    (∀ j, w j = (wordAt (s.g m) j).toInt * (wordAt (s.g n) j).toInt) →
    (∀ j, l j = (longAt (s.g m) j).toInt * (longAt (s.g n) j).toInt) →
    (∀ x, c x = max (-2 ^ 31) (min (2 ^ 31 - 1) x)) →
    (∃ v, PutsG (.mMmacfxWl m n d) s d v ∧ ∀ j, j < 2 →
      (longAt v j).toInt = c ((longAt (s.g d) j).toInt + c (2 * w j))) ∧
    (∃ v, PutsG (.mMmacnfxWl m n d) s d v ∧ ∀ j, j < 2 →
      (longAt v j).toInt = c ((longAt (s.g d) j).toInt - c (2 * w j))) ∧
    (∃ v, PutsG (.mMmulW m n d) s d v ∧ ∀ j, j < 4 → wordAt v j = BitVec.ofInt 16 (w j)) ∧
    (∃ v, PutsG (.mMmulL m n d) s d v ∧ ∀ j, j < 2 → longAt v j = BitVec.ofInt 32 (l j)) ∧
    (∃ v, PutsG (.mMmulfxW m n d) s d v ∧ ∀ j, j < 4 →
      (wordAt v j).toInt = max (-2 ^ 15) (min (2 ^ 15 - 1) (w j / 2 ^ 15))) ∧
    (∃ v, PutsG (.mMmulfxL m n d) s d v ∧ ∀ j, j < 2 → (longAt v j).toInt = c (l j / 2 ^ 31)) ∧
    (∃ v, PutsG (.mMmulfxrpW m n d) s d v ∧ ∀ j, j < 4 →
      (wordAt v j).toInt = max (-2 ^ 15) (min (2 ^ 15 - 1) ((w j + 0x4000) / 2 ^ 15))) ∧
    (∃ v, PutsG (.mMmulhiWl m n d) s d v ∧ ∀ j, j < 2 → (longAt v j).toInt = w (j + 2)) ∧
    (∃ v, PutsG (.mMmulloWl m n d) s d v ∧ ∀ j, j < 2 → (longAt v j).toInt = w j) ∧
    PutsG (.mMmulsumWq m n d) s d (BitVec.ofInt 64 ((s.g d).toInt + w 0 + w 1 + w 2 + w 3)) ∧
    (∃ v, PutsG (.mMpermW m n d) s d v ∧ ∀ j, j < 4 →
      wordAt v j = wordAt (s.g m) ((s.g n).toNat / 4 ^ j % 4)) ∧
    PutsG (.mMsadUbq m n d) s d (BitVec.ofInt 64 ((s.g d).toInt +
      ((List.range 8).map fun j => |((byteAt (s.g m) j).toNat : Int) - (byteAt (s.g n) j).toNat|).sum))

/-- 45 R606 to R614: the lane shifts, by the count in the low bits of Rn, as products and quotients by powers of two. -/
def Obligations.MediaPackedShifts : Prop :=
  ∀ (s : State) (m n d : MReg) (cw cl : Nat), cw = (s.g n).toNat % 16 → cl = (s.g n).toNat % 32 →
    (∃ v, PutsG (.mMshaldsW m n d) s d v ∧ ∀ j, j < 4 →
      (wordAt v j).toInt = max (-2 ^ 15) (min (2 ^ 15 - 1) ((wordAt (s.g m) j).toInt * 2 ^ cw))) ∧
    (∃ v, PutsG (.mMshaldsL m n d) s d v ∧ ∀ j, j < 2 →
      (longAt v j).toInt = max (-2 ^ 31) (min (2 ^ 31 - 1) ((longAt (s.g m) j).toInt * 2 ^ cl))) ∧
    (∃ v, PutsG (.mMshardW m n d) s d v ∧ ∀ j, j < 4 → (wordAt v j).toInt = (wordAt (s.g m) j).toInt / 2 ^ cw) ∧
    (∃ v, PutsG (.mMshardL m n d) s d v ∧ ∀ j, j < 2 → (longAt v j).toInt = (longAt (s.g m) j).toInt / 2 ^ cl) ∧
    PutsG (.mMshardsQ m n d) s d
      (BitVec.ofInt 64 (max (-2 ^ 15) (min (2 ^ 15 - 1) ((s.g m).toInt / 2 ^ ((s.g n).toNat % 64))))) ∧
    (∃ v, PutsG (.mMshlldW m n d) s d v ∧ ∀ j, j < 4 →
      wordAt v j = BitVec.ofNat 16 ((wordAt (s.g m) j).toNat * 2 ^ cw)) ∧
    (∃ v, PutsG (.mMshlldL m n d) s d v ∧ ∀ j, j < 2 →
      longAt v j = BitVec.ofNat 32 ((longAt (s.g m) j).toNat * 2 ^ cl)) ∧
    (∃ v, PutsG (.mMshlrdW m n d) s d v ∧ ∀ j, j < 4 → (wordAt v j).toNat = (wordAt (s.g m) j).toNat / 2 ^ cw) ∧
    (∃ v, PutsG (.mMshlrdL m n d) s d v ∧ ∀ j, j < 2 → (longAt v j).toNat = (longAt (s.g m) j).toNat / 2 ^ cl)

/-! ### Media loads and stores (spec 46) -/

/-- 46 R635 to R654, R663: the loads, the stores and the swap, when no access at the address the rule gives faults; R63 stores
0. -/
def Obligations.MediaLoadsAndStores : Prop :=
  ∀ (s : State) (m n d : MReg) (imm : BitVec 10) (a : Quad),
    (a = s.g m + BitVec.ofInt 64 imm.toInt → s.readFault a 1 = none →
      PutsG (.mLdB m imm d) s d (BitVec.ofInt 64 (s.read8 a).toInt) ∧
      PutsG (.mLdUb m imm d) s d (BitVec.ofNat 64 (s.read8 a).toNat)) ∧
    (a = s.g m + BitVec.ofInt 64 (imm.toInt * 2) → s.readFault a 2 = none →
      PutsG (.mLdW m imm d) s d (BitVec.ofInt 64 (s.read16 a).toInt) ∧
      PutsG (.mLdUw m imm d) s d (BitVec.ofNat 64 (s.read16 a).toNat)) ∧
    (a = s.g m + BitVec.ofInt 64 (imm.toInt * 4) → s.readFault a 4 = none →
      PutsG (.mLdL m imm d) s d (BitVec.ofInt 64 (s.read32 a).toInt)) ∧
    (a = s.g m + BitVec.ofInt 64 (imm.toInt * 8) → s.readFault a 8 = none →
      PutsG (.mLdQ m imm d) s d (s.read64 a)) ∧
    (a = s.g m + s.g n →
      (s.readFault a 1 = none →
        PutsG (.mLdxB m n d) s d (BitVec.ofInt 64 (s.read8 a).toInt) ∧
        PutsG (.mLdxUb m n d) s d (BitVec.ofNat 64 (s.read8 a).toNat)) ∧
      (s.readFault a 2 = none →
        PutsG (.mLdxW m n d) s d (BitVec.ofInt 64 (s.read16 a).toInt) ∧
        PutsG (.mLdxUw m n d) s d (BitVec.ofNat 64 (s.read16 a).toNat)) ∧
      (s.readFault a 4 = none → PutsG (.mLdxL m n d) s d (BitVec.ofInt 64 (s.read32 a).toInt)) ∧
      (s.readFault a 8 = none → PutsG (.mLdxQ m n d) s d (s.read64 a))) ∧
    (a = s.g m + BitVec.ofInt 64 imm.toInt → s.writeFault a 1 = none →
      Runs (.mStB m imm d) s (s.pc + 4) { mem := bytesFrom a 1 } (fun t => t.read8 a = (s.g d).extractLsb' 0 8)) ∧
    (a = s.g m + BitVec.ofInt 64 (imm.toInt * 2) → s.writeFault a 2 = none →
      Runs (.mStW m imm d) s (s.pc + 4) { mem := bytesFrom a 2 } (fun t => t.read16 a = (s.g d).extractLsb' 0 16)) ∧
    (a = s.g m + BitVec.ofInt 64 (imm.toInt * 4) → s.writeFault a 4 = none →
      Runs (.mStL m imm d) s (s.pc + 4) { mem := bytesFrom a 4 } (fun t => t.read32 a = (s.g d).extractLsb' 0 32)) ∧
    (a = s.g m + BitVec.ofInt 64 (imm.toInt * 8) → s.writeFault a 8 = none →
      Runs (.mStQ m imm d) s (s.pc + 4) { mem := bytesFrom a 8 } (fun t => t.read64 a = s.g d)) ∧
    (a = s.g m + s.g n →
      (s.writeFault a 1 = none → Runs (.mStxB m n d) s (s.pc + 4) { mem := bytesFrom a 1 }
        (fun t => t.read8 a = (s.g d).extractLsb' 0 8)) ∧
      (s.writeFault a 2 = none → Runs (.mStxW m n d) s (s.pc + 4) { mem := bytesFrom a 2 }
        (fun t => t.read16 a = (s.g d).extractLsb' 0 16)) ∧
      (s.writeFault a 4 = none → Runs (.mStxL m n d) s (s.pc + 4) { mem := bytesFrom a 4 }
        (fun t => t.read32 a = (s.g d).extractLsb' 0 32)) ∧
      (s.writeFault a 8 = none → Runs (.mStxQ m n d) s (s.pc + 4) { mem := bytesFrom a 8 }
        (fun t => t.read64 a = s.g d)) ∧
      (s.readFault a 8 = none → s.writeFault a 8 = none →
        Runs (.mSwapQ m n d) s (s.pc + 4) { gr := [d], mem := bytesFrom a 8 }
          (fun t => t.read64 a = s.g d ∧ t.g d = if d = 63 then 0 else s.read64 a)))

/-- 46 R655 to R662: the byte at distance `q` from the given address, inside its aligned block, upwards or downwards by the byte
order, holds byte `q` of the value for the low forms and byte `N - 1 - q` for the high forms; every other byte of a loaded value
is 0, and no other byte of memory is written. -/
def Obligations.MediaMisalignedPairs : Prop :=
  ∀ (s : State) (m d : MReg) (imm : BitVec 6) (a : Quad) (up : Bool), a = s.g m + BitVec.ofInt 64 imm.toInt →
    (up = (s.endian == .little) →
      ((∀ x ∈ blockPart up a 4, canRead s.params x = true) → ∃ v : Quad,
        (∀ q, q < 8 → byteAt v q = if q < blockCount up a 4 then s.read8 (blockAddr up a q) else 0) ∧
        PutsG (.mLdloL m imm d) s d (sext64 (low32 v))) ∧
      ((∀ x ∈ blockPart up a 8, canRead s.params x = true) → ∃ v : Quad,
        (∀ q, q < 8 → byteAt v q = if q < blockCount up a 8 then s.read8 (blockAddr up a q) else 0) ∧
        PutsG (.mLdloQ m imm d) s d v) ∧
      ((∀ x ∈ blockPart up a 4, canWrite s.params x = true) →
        Runs (.mStloL m imm d) s (s.pc + 4) { mem := blockPart up a 4 }
          (fun t => ∀ q, q < blockCount up a 4 → t.read8 (blockAddr up a q) = byteAt (s.g d) q)) ∧
      ((∀ x ∈ blockPart up a 8, canWrite s.params x = true) →
        Runs (.mStloQ m imm d) s (s.pc + 4) { mem := blockPart up a 8 }
          (fun t => ∀ q, q < blockCount up a 8 → t.read8 (blockAddr up a q) = byteAt (s.g d) q))) ∧
    (up = (s.endian == .big) →
      ((∀ x ∈ blockPart up a 4, canRead s.params x = true) → ∃ v : Quad,
        (∀ q, q < 4 → byteAt v (3 - q) = if q < blockCount up a 4 then s.read8 (blockAddr up a q) else 0) ∧
        PutsG (.mLdhiL m imm d) s d (sext64 (low32 v))) ∧
      ((∀ x ∈ blockPart up a 8, canRead s.params x = true) → ∃ v : Quad,
        (∀ q, q < 8 → byteAt v (7 - q) = if q < blockCount up a 8 then s.read8 (blockAddr up a q) else 0) ∧
        PutsG (.mLdhiQ m imm d) s d v) ∧
      ((∀ x ∈ blockPart up a 4, canWrite s.params x = true) →
        Runs (.mSthiL m imm d) s (s.pc + 4) { mem := blockPart up a 4 }
          (fun t => ∀ q, q < blockCount up a 4 → t.read8 (blockAddr up a q) = byteAt (s.g d) (3 - q))) ∧
      ((∀ x ∈ blockPart up a 8, canWrite s.params x = true) →
        Runs (.mSthiQ m imm d) s (s.pc + 4) { mem := blockPart up a 8 }
          (fun t => ∀ q, q < blockCount up a 8 → t.read8 (blockAddr up a q) = byteAt (s.g d) (7 - q))))

/-! ### Media floating point (spec 48) -/

/-- 48 R755 to R777: the arithmetic, fused multiply-add, square root and the comparisons, for fields that meet 48 R751. -/
def Obligations.MediaFpArithmeticAndCompare : Prop :=
  ∀ (s : State) (g h f : MReg),
    PutsF (.mFabsS g g f) s 4 f (fAbs32 (s.f g)) ∧
    PutsF (.mFnegS g g f) s 4 f (fNeg32 (s.f g)) ∧
    PutsF (.mFaddS g h f) s 4 f (fAdd32 (s.f g) (s.f h)) ∧
    PutsF (.mFsubS g h f) s 4 f (fSub32 (s.f g) (s.f h)) ∧
    PutsF (.mFdivS g h f) s 4 f (fDiv32 (s.f g) (s.f h)) ∧
    PutsF (.mFmulS g h f) s 4 f (fMul32 (s.f g) (s.f h)) ∧
    (g.toNat % 2 = 0 → f.toNat % 2 = 0 →
      PutsD (.mFabsD g g f) s 4 f (fAbs64 (s.f g ++ s.f (g + 1))) ∧
      PutsD (.mFnegD g g f) s 4 f (fNeg64 (s.f g ++ s.f (g + 1))) ∧
      (h.toNat % 2 = 0 →
        PutsD (.mFaddD g h f) s 4 f (fAdd64 (s.f g ++ s.f (g + 1)) (s.f h ++ s.f (h + 1))) ∧
        PutsD (.mFsubD g h f) s 4 f (fSub64 (s.f g ++ s.f (g + 1)) (s.f h ++ s.f (h + 1))) ∧
        PutsD (.mFdivD g h f) s 4 f (fDiv64 (s.f g ++ s.f (g + 1)) (s.f h ++ s.f (h + 1))) ∧
        PutsD (.mFmulD g h f) s 4 f (fMul64 (s.f g ++ s.f (g + 1)) (s.f h ++ s.f (h + 1))))) ∧
    PutsF (.mFmacS g h f) s 4 f (fMulAdd32 (s.f g) (s.f h) (s.f f)) ∧
    PutsF (.mFsqrtS g g f) s 4 f (fSqrt32 (s.f g)) ∧
    (g.toNat % 2 = 0 → f.toNat % 2 = 0 → PutsD (.mFsqrtD g g f) s 4 f (fSqrt64 (s.f g ++ s.f (g + 1)))) ∧
    PutsG (.mFcmpeqS g h f) s f (if fCmpEq32 (s.f g) (s.f h) then 1 else 0) ∧
    PutsG (.mFcmpunS g h f) s f (if fCmpUn32 (s.f g) (s.f h) then 1 else 0) ∧
    PutsG (.mFcmpgtS g h f) s f (if fCmpGt32 (s.f g) (s.f h) then 1 else 0) ∧
    PutsG (.mFcmpgeS g h f) s f (if fCmpGe32 (s.f g) (s.f h) then 1 else 0) ∧
    (g.toNat % 2 = 0 → h.toNat % 2 = 0 →
      PutsG (.mFcmpeqD g h f) s f (if fCmpEq64 (s.f g ++ s.f (g + 1)) (s.f h ++ s.f (h + 1)) then 1 else 0) ∧
      PutsG (.mFcmpunD g h f) s f (if fCmpUn64 (s.f g ++ s.f (g + 1)) (s.f h ++ s.f (h + 1)) then 1 else 0) ∧
      PutsG (.mFcmpgtD g h f) s f (if fCmpGt64 (s.f g ++ s.f (g + 1)) (s.f h ++ s.f (h + 1)) then 1 else 0) ∧
      PutsG (.mFcmpgeD g h f) s f (if fCmpGe64 (s.f g ++ s.f (g + 1)) (s.f h ++ s.f (h + 1)) then 1 else 0))

/-- 48 R778 to R789: the moves between FP registers and the conversions, for fields that meet 48 R751. -/
def Obligations.MediaFpMoveConvert : Prop :=
  ∀ (s : State) (g f : MReg),
    PutsF (.mFmovS g g f) s 4 f (s.f g) ∧
    PutsF (.mFtrcSl g g f) s 4 f (fCvtF32toI32 (s.f g)) ∧
    PutsF (.mFloatLs g g f) s 4 f (fCvtI32toF32 (s.f g)) ∧
    (f.toNat % 2 = 0 →
      PutsD (.mFcnvSd g g f) s 4 f (fCvtF32toF64 (s.f g)) ∧
      PutsD (.mFtrcSq g g f) s 4 f (fCvtF32toI64 (s.f g)) ∧
      PutsD (.mFloatLd g g f) s 4 f (fCvtI32toF64 (s.f g))) ∧
    (g.toNat % 2 = 0 →
      PutsF (.mFcnvDs g g f) s 4 f (fCvtF64toF32 (s.f g ++ s.f (g + 1))) ∧
      PutsF (.mFtrcDl g g f) s 4 f (fCvtF64toI32 (s.f g ++ s.f (g + 1))) ∧
      PutsF (.mFloatQs g g f) s 4 f (fCvtI64toF32 (s.f g ++ s.f (g + 1))) ∧
      (f.toNat % 2 = 0 →
        PutsD (.mFmovD g g f) s 4 f (s.f g ++ s.f (g + 1)) ∧
        PutsD (.mFtrcDq g g f) s 4 f (fCvtF64toI64 (s.f g ++ s.f (g + 1))) ∧
        PutsD (.mFloatQd g g f) s 4 f (fCvtI64toF64 (s.f g ++ s.f (g + 1)))))

/-- 48 R790 to R797: the moves to and from general registers and FPSCR, the dot product and the matrix transform, for fields that
meet 48 R751. -/
def Obligations.MediaFpRegistersVectors : Prop :=
  ∀ (s : State) (g h f : MReg),
    PutsG (.mFmovSl g g f) s f (sext64 (s.f g)) ∧
    (g.toNat % 2 = 0 → PutsG (.mFmovDq g g f) s f (s.f g ++ s.f (g + 1))) ∧
    PutsF (.mFmovLs g f) s 4 f (low32 (s.g g)) ∧
    (f.toNat % 2 = 0 → PutsD (.mFmovQd g f) s 4 f (s.g g)) ∧
    PutsF (.mFgetscr f) s 4 f s.fpscr ∧
    Runs (.mFputscr g g) s (s.pc + 4) { fpscr := true } (fun t => t.fpscr.toNat = (s.f g).toNat % 2 ^ 22) ∧
    (g.toNat % 4 = 0 → h.toNat % 4 = 0 →
      PutsF (.mFiprS g h f) s 4 f
        (fDot4 (four (s.f g) (s.f (g + 1)) (s.f (g + 2)) (s.f (g + 3)))
          (four (s.f h) (s.f (h + 1)) (s.f (h + 2)) (s.f (h + 3))))) ∧
    (g.toNat % 16 = 0 → h.toNat % 4 = 0 → f.toNat % 4 = 0 →
      Runs (.mFtrvS g h f) s (s.pc + 4) { fr := [f, f + 1, f + 2, f + 3] } (fun t => ∀ k : Nat, k < 4 →
        t.f (f + BitVec.ofNat 6 k) = fMtrx (Vector.ofFn fun j => s.f (g + BitVec.ofNat 6 j.val))
          (four (s.f h) (s.f (h + 1)) (s.f (h + 2)) (s.f (h + 3))) k))

/-- 48 R798 to R809: the FP loads and stores are bit copies, when no access faults. A pair is two 4-byte accesses, the lower
register at the lower address; a double is one 8-byte access. -/
def Obligations.MediaFpMemory : Prop :=
  ∀ (s : State) (m n f : MReg) (imm : BitVec 10) (a4 a8 ax : Quad),
    a4 = s.g m + BitVec.ofInt 64 (imm.toInt * 4) → a8 = s.g m + BitVec.ofInt 64 (imm.toInt * 8) →
    ax = s.g m + s.g n →
    (s.readFault a4 4 = none → PutsF (.mFldS m imm f) s 4 f (s.read32 a4)) ∧
    (s.readFault ax 4 = none → PutsF (.mFldxS m n f) s 4 f (s.read32 ax)) ∧
    (s.writeFault a4 4 = none → Runs (.mFstS m imm f) s (s.pc + 4) { mem := bytesFrom a4 4 }
      (fun t => t.read32 a4 = s.f f)) ∧
    (s.writeFault ax 4 = none → Runs (.mFstxS m n f) s (s.pc + 4) { mem := bytesFrom ax 4 }
      (fun t => t.read32 ax = s.f f)) ∧
    (f.toNat % 2 = 0 →
      (s.readFault a8 8 = none → PutsD (.mFldD m imm f) s 4 f (s.read64 a8)) ∧
      (s.readFault ax 8 = none → PutsD (.mFldxD m n f) s 4 f (s.read64 ax)) ∧
      (s.writeFault a8 8 = none → Runs (.mFstD m imm f) s (s.pc + 4) { mem := bytesFrom a8 8 }
        (fun t => t.read64 a8 = s.f f ++ s.f (f + 1))) ∧
      (s.writeFault ax 8 = none → Runs (.mFstxD m n f) s (s.pc + 4) { mem := bytesFrom ax 8 }
        (fun t => t.read64 ax = s.f f ++ s.f (f + 1))) ∧
      ((s.params.misaligned = .fault → a8.toNat % 8 = 0) →
        (s.readFault a8 4 = none → s.readFault (a8 + 4) 4 = none →
          PutsD (.mFldP m imm f) s 4 f (s.read32 a8 ++ s.read32 (a8 + 4))) ∧
        (s.writeFault a8 4 = none → s.writeFault (a8 + 4) 4 = none →
          Runs (.mFstP m imm f) s (s.pc + 4) { mem := bytesFrom a8 8 }
            (fun t => t.read32 a8 = s.f f ∧ t.read32 (a8 + 4) = s.f (f + 1)))) ∧
      ((s.params.misaligned = .fault → ax.toNat % 8 = 0) →
        (s.readFault ax 4 = none → s.readFault (ax + 4) 4 = none →
          PutsD (.mFldxP m n f) s 4 f (s.read32 ax ++ s.read32 (ax + 4))) ∧
        (s.writeFault ax 4 = none → s.writeFault (ax + 4) 4 = none →
          Runs (.mFstxP m n f) s (s.pc + 4) { mem := bytesFrom ax 8 }
            (fun t => t.read32 ax = s.f f ∧ t.read32 (ax + 4) = s.f (f + 1)))))

/-- 43 R431, 48 R751: the compact FP opcodes that FPSCR.PR makes illegal, and a media FP word whose fields break a constraint,
report `InvalidInstruction`, and nothing else changes. -/
def Obligations.FpIllegalForms : Prop :=
  (∀ (s : State) (m n : CReg) (p q : BitVec 2) (e : BitVec 3),
     (s.fpPR = true → n.toNat % 2 = 1 →
       ∀ i ∈ ([.cFabs n, .cFneg n, .cFsqrt n, .cFloat n, .cFtrc n, .cFadd m n, .cFsub m n, .cFmul m n, .cFdiv m n,
         .cFcmpEq m n, .cFcmpGt m n, .cFadd n m, .cFsub n m, .cFmul n m, .cFdiv n m, .cFcmpEq n m, .cFcmpGt n m] :
         List Instr), ReportsInvalid i s) ∧
     (s.fpPR = true →
       ∀ i ∈ ([.cFmac m n, .cFldi0 n, .cFldi1 n, .cFipr p q, .cFtrv q, .cFrchg, .cFschg] : List Instr),
         ReportsInvalid i s) ∧
     (s.fpPR = false → ∀ i ∈ ([.cFcnvsd e, .cFcnvds e] : List Instr), ReportsInvalid i s)) ∧
  (∀ (s : State) (m n d : MReg) (imm : BitVec 10),
     (m ≠ n → ∀ i ∈ ([.mFabsS m n d, .mFnegS m n d, .mFsqrtS m n d, .mFmovS m n d, .mFtrcSl m n d, .mFloatLs m n d,
         .mFmovSl m n d, .mFputscr m n, .mFabsD m n d, .mFnegD m n d, .mFsqrtD m n d, .mFmovD m n d, .mFcnvSd m n d,
         .mFcnvDs m n d, .mFtrcDq m n d, .mFtrcSq m n d, .mFtrcDl m n d, .mFloatQd m n d, .mFloatLd m n d,
         .mFloatQs m n d, .mFmovDq m n d] : List Instr), ReportsInvalid i s) ∧
     (m.toNat % 2 = 1 → ∀ i ∈ ([.mFabsD m n d, .mFnegD m n d, .mFaddD m n d, .mFsubD m n d, .mFdivD m n d, .mFmulD m n d,
         .mFsqrtD m n d, .mFcmpeqD m n d, .mFcmpunD m n d, .mFcmpgtD m n d, .mFcmpgeD m n d, .mFmovD m n d,
         .mFcnvDs m n d, .mFtrcDq m n d, .mFtrcDl m n d, .mFloatQd m n d, .mFloatQs m n d, .mFmovDq m n d] :
         List Instr), ReportsInvalid i s) ∧
     (n.toNat % 2 = 1 → ∀ i ∈ ([.mFaddD m n d, .mFsubD m n d, .mFdivD m n d, .mFmulD m n d, .mFcmpeqD m n d,
         .mFcmpunD m n d, .mFcmpgtD m n d, .mFcmpgeD m n d] : List Instr), ReportsInvalid i s) ∧
     (d.toNat % 2 = 1 → ∀ i ∈ ([.mFabsD m n d, .mFnegD m n d, .mFaddD m n d, .mFsubD m n d, .mFdivD m n d, .mFmulD m n d,
         .mFsqrtD m n d, .mFmovD m n d, .mFcnvSd m n d, .mFtrcDq m n d, .mFtrcSq m n d, .mFloatQd m n d, .mFloatLd m n d,
         .mFmovQd m d, .mFldP m imm d, .mFldD m imm d, .mFstP m imm d, .mFstD m imm d, .mFldxD m n d, .mFldxP m n d,
         .mFstxD m n d, .mFstxP m n d] : List Instr), ReportsInvalid i s) ∧
     (m.toNat % 4 ≠ 0 ∨ n.toNat % 4 ≠ 0 → ReportsInvalid (.mFiprS m n d) s) ∧
     (m.toNat % 16 ≠ 0 ∨ n.toNat % 4 ≠ 0 ∨ d.toNat % 4 ≠ 0 → ReportsInvalid (.mFtrvS m n d) s))

/-! ### One step, fetching and decoding (spec 20, 30, 49) -/

/-- 49 R820, R826, 70 R902: when the code at PC decodes to an instruction, the step is `exec` of it, in the dispatch state
`Executing`; in a delay slot an instruction that completes normally then commits the recorded branch. Under
`RESET_STATE = unwritten` this holds where PC, ISM and what the instruction reads are written, and the step records what it
writes; under `zero` it always holds and nothing is recorded. -/
def Obligations.StepRunsDecodedInstruction : Prop :=
  ∀ (s : State) (c : Code) (i : Instr), s.fetch = .ok c → decodeCode s.params.ext c = .ok i →
    (s.entryUnwritten = false → s.readsUnwritten i = false → ∀ t, exec i { s with dstate := .executing } = .next t →
      (s.pending = none → step s = .next (if t.dstate = .fetching then s.recordWrites i t else t)) ∧
      (s.pending ≠ none → slotIllegal i = false →
        step s = .next (if t.dstate = .fetching then (s.recordWrites i t).commitPending else t))) ∧
    (s.params.resetState = .zero →
      s.entryUnwritten = false ∧ s.readsUnwritten i = false ∧ (∀ t, s.recordWrites i t = t) ∧
      (s.pending = none → step s = exec i { s with dstate := .executing }))

/-- 49 R821, R828, 60 R854: a step whose fetch faults reports `MemoryFault`; one whose code matches no admitted row, or whose
instruction is slot-illegal in a delay slot, reports `InvalidInstruction`; nothing else changes. PC and ISM are written, as they
always are under `RESET_STATE = zero` (70 R902). -/
def Obligations.StepReportsUnusableCode : Prop :=
  ∀ (s : State) (c : Code) (i : Instr) (a : Quad) (r : Reject), s.entryUnwritten = false →
    (s.fetch = .error a →
      step s = .next { s with dstate := .faulted, event := .memoryFault a s.taggedPC }) ∧
    (s.fetch = .ok c → decodeCode s.params.ext c = .error r ∨
        decodeCode s.params.ext c = .ok i ∧ s.pending ≠ none ∧ slotIllegal i = true →
      step s = .next { s with dstate := .faulted, event := .invalidInstruction s.taggedPC })

/-- 20 R92, R93: the code placed at PC is the code that the next step fetches, in either byte order, where MEM can be read and a
compact PC is even, and the next step runs its instruction; a media PC with bit 1 set faults with PC itself. -/
def Obligations.PlacedCodeIsFetched : Prop :=
  ∀ (s : State) (c : Code) (i : Instr), s.pc.getLsbD 0 = false → decodeCode s.params.ext c = .ok i →
    (∀ x ∈ bytesFrom (placePc s.pc c) c.size, canRead s.params x = true) →
    (placeCode s c).fetch = .ok c ∧
    (placeCode s c).entryUnwritten = false ∧
    (s.params.resetState = .zero → step (placeCode s c) = exec i { placeCode s c with dstate := .executing }) ∧
    (s.ism = .media → s.pc.getLsbD 1 = true → s.fetch = .error s.pc)

/-- Decoding the code of an instruction gives the instruction, whatever its fields, under every `COMPACT_EXT` that admits it. -/
def Obligations.DecodeOfEncode : Prop :=
  ∀ (x : CompactExt) (i : Instr), admits x i = true → decodeCode x (encode i) = .ok i

/-- 30 R112, R118, R126: a code that decodes is the code of its instruction, bit for bit; so no reserved bit is ignored and no
two codes mean the same. -/
def Obligations.EncodeOfDecode : Prop :=
  ∀ (x : CompactExt) (c : Code) (i : Instr), decodeCode x c = .ok i → encode i = c ∧ admits x i = true

/-- A few words, written out from the patterns of spec 30 R128 and of the rules of their instructions. -/
def Obligations.DecodedWords : Prop :=
  decodeCode CompactExt.decided (.half 0b0011_0011_0101_1100) = .ok (.cAdd 5 3) ∧
  decodeCode CompactExt.decided (.half 0b1000_1011_1111_1110) = .ok (.cBf 0xFE) ∧
  decodeCode CompactExt.decided (.half 0b0000_0000_0000_1001) = .ok .cNop ∧
  decodeCode CompactExt.decided (.pair 0b0000_0010_0001_0000 0b0010_0011_0100_0101) = .ok (.cMovi20 0x12345 2) ∧
  decodeCode CompactExt.decided (.word 0b000000_000001_1001_000010_000011_0000) = .ok (.mAdd 1 2 3) ∧
  decodeCode CompactExt.decided (.word 0b110011_1111111111111111_000101_0000) = .ok (.mMovi 0xFFFF 5) ∧
  decodeCode CompactExt.decided (.word 0b000000_000001_1001_000010_000011_0001) = .error .unrecognized

/-- 49 R826, R832, 42 R371: a delayed branch and its slot take two steps: the first records the target, and the second runs the
slot instruction and then goes to the target, in the mode of its tag. Where `RESET_STATE = unwritten`, what the two read is
written. -/
def Obligations.DelayedBranchTakesTwoSteps : Prop :=
  ∀ (s t t' u : State) (c c' : Code) (i j : Instr) (p : Pending), s.pending = none → s.fetch = .ok c →
    decodeCode s.params.ext c = .ok i → s.entryUnwritten = false → s.readsUnwritten i = false →
    exec i { s with dstate := .executing } = .next t → t.dstate = .fetching → t.pending = some p →
    t' = s.recordWrites i t → t'.fetch = .ok c' → decodeCode t'.params.ext c' = .ok j → slotIllegal j = false →
    t'.entryUnwritten = false → t'.readsUnwritten j = false →
    exec j { t' with dstate := .executing } = .next u → u.dstate = .fetching →
    ∃ v, step s = .next t' ∧ step t' = .next v ∧ v.pending = none ∧ v.dstate = .fetching ∧ v.event = .none ∧
      v.pc = (if p.tagged then p.target &&& ~~~1#64 else p.target) ∧
      v.ism = (if p.tagged && p.target.getLsbD 0 then .media else .compact) ∧
      v.gr = u.gr ∧ v.fr = u.fr ∧ v.sr = u.sr ∧ v.mem = u.mem

/-! ### Memory (spec 20) -/

/-- 20 R81: the bytes of a value in each byte order, for reads and for writes, and no other byte is written. -/
def Obligations.ByteOrderOfAccesses : Prop :=
  ∀ (s : State) (a x : Quad) (h : Half) (w : Word) (q : Quad) (k : Nat),
    (k < 2 → s.read8 (a + BitVec.ofNat 64 k) =
        (s.read16 a).extractLsb' (if s.endian = .big then 8 * (1 - k) else 8 * k) 8 ∧
      (s.write16 a h).read8 (a + BitVec.ofNat 64 k) =
        h.extractLsb' (if s.endian = .big then 8 * (1 - k) else 8 * k) 8) ∧
    (k < 4 → s.read8 (a + BitVec.ofNat 64 k) =
        (s.read32 a).extractLsb' (if s.endian = .big then 8 * (3 - k) else 8 * k) 8 ∧
      (s.write32 a w).read8 (a + BitVec.ofNat 64 k) =
        w.extractLsb' (if s.endian = .big then 8 * (3 - k) else 8 * k) 8) ∧
    (k < 8 → s.read8 (a + BitVec.ofNat 64 k) =
        (s.read64 a).extractLsb' (if s.endian = .big then 8 * (7 - k) else 8 * k) 8 ∧
      (s.write64 a q).read8 (a + BitVec.ofNat 64 k) =
        q.extractLsb' (if s.endian = .big then 8 * (7 - k) else 8 * k) 8) ∧
    (x ∉ bytesFrom a 2 → (s.write16 a h).read8 x = s.read8 x) ∧
    (x ∉ bytesFrom a 4 → (s.write32 a w).read8 x = s.read8 x) ∧
    (x ∉ bytesFrom a 8 → (s.write64 a q).read8 x = s.read8 x)

/-- 20 R83, R85: an aligned access faults with its own address exactly when it touches a byte outside `MEM`; a misaligned one
faults with its own address under `MISALIGNED = fault`, and is as many one-byte accesses under `split`. That a faulting split
access reports the address of its first failing byte is the model's reading: log 17 (DEDUCED). -/
def Obligations.AccessChecks : Prop :=
  ∀ (s : State) (a x : Quad) (n : Nat), n ∈ [1, 2, 4, 8] →
    (canRead s.params a = true ↔
      ∃ r ∈ s.params.mem, r.readable = true ∧ r.base ≤ a.toNat ∧ a.toNat < r.base + r.size) ∧
    (canWrite s.params a = true ↔
      ∃ r ∈ s.params.mem, r.writable = true ∧ r.base ≤ a.toNat ∧ a.toNat < r.base + r.size) ∧
    (a.toNat % n = 0 →
      (s.readFault a n = none ↔ ∀ y ∈ bytesFrom a n, canRead s.params y = true) ∧
      (s.writeFault a n = none ↔ ∀ y ∈ bytesFrom a n, canWrite s.params y = true) ∧
      (s.readFault a n = some x → x = a) ∧ (s.writeFault a n = some x → x = a)) ∧
    (a.toNat % n ≠ 0 → s.params.misaligned = .fault →
      s.readFault a n = some a ∧ s.writeFault a n = some a) ∧
    (a.toNat % n ≠ 0 → s.params.misaligned = .split →
      (s.readFault a n = none ↔ ∀ y ∈ bytesFrom a n, s.readFault y 1 = none) ∧
      (s.readFault a n = some x ↔ ∃ k < n, x = a + BitVec.ofNat 64 k ∧ canRead s.params x = false ∧
        ∀ j < k, canRead s.params (a + BitVec.ofNat 64 j) = true) ∧
      (s.writeFault a n = none ↔ ∀ y ∈ bytesFrom a n, s.writeFault y 1 = none) ∧
      (s.writeFault a n = some x ↔ ∃ k < n, x = a + BitVec.ofNat 64 k ∧ canWrite s.params x = false ∧
        ∀ j < k, canWrite s.params (a + BitVec.ofNat 64 j) = true))

/-- 20 R85 to R89, 60 R852: an instruction whose access faults reports `MemoryFault` with the address of its first faulting
access, and changes nothing else: no post-increment, no pre-decrement, no flag, no accumulator, no byte. The triples give the
address and the size of a read, or of a write, of every form that makes a data access; then come the second access of mac.l and
mac.w, the writes of the read-modify-write forms, the pairs of 20 R87, and the one-byte accesses of movua.l, ldlo, ldhi, stlo and
sthi. -/
def Obligations.DataFaultsChangeNothing : Prop :=
  ∀ (s : State) (m n : CReg) (d : BitVec 8) (e : BitVec 4) (l : BitVec 12) (p : BitVec 3) (g h k : MReg) (imm : BitVec 10)
    (u : BitVec 6) (i : Instr) (a x : Quad) (z : Nat),
    -- one read, or the first of two
    ((i, a, z) ∈ ([
        (.cMovBLoad m n, sext64 (s.r m), 1), (.cMovWLoad m n, sext64 (s.r m), 2), (.cMovLLoad m n, sext64 (s.r m), 4),
        (.cMovBLoadInc m n, sext64 (s.r m), 1), (.cMovWLoadInc m n, sext64 (s.r m), 2),
        (.cMovLLoadInc m n, sext64 (s.r m), 4), (.cMovBLoadIdx m n, sext64 (s.r 0 + s.r m), 1),
        (.cMovWLoadIdx m n, sext64 (s.r 0 + s.r m), 2), (.cMovLLoadIdx m n, sext64 (s.r 0 + s.r m), 4),
        (.cMovBLoadDisp m e, sext64 (s.r m + BitVec.ofNat 32 e.toNat), 1),
        (.cMovWLoadDisp m e, sext64 (s.r m + BitVec.ofNat 32 (e.toNat * 2)), 2),
        (.cMovLLoadDisp m e n, sext64 (s.r m + BitVec.ofNat 32 (e.toNat * 4)), 4),
        (.cMovBLoadGbr d, sext64 (s.getGbr + BitVec.ofNat 32 d.toNat), 1),
        (.cMovWLoadGbr d, sext64 (s.getGbr + BitVec.ofNat 32 (d.toNat * 2)), 2),
        (.cMovLLoadGbr d, sext64 (s.getGbr + BitVec.ofNat 32 (d.toNat * 4)), 4),
        (.cMovWLoadPc d n, sext64 (low32 s.pc + 4 + BitVec.ofNat 32 (d.toNat * 2)), 2),
        (.cMovLLoadPc d n, sext64 (BitVec.ofNat 32 ((low32 s.pc).toNat / 4 * 4 + 4 + d.toNat * 4)), 4),
        (.cMacL m n, sext64 (s.r n), 4), (.cMacW m n, sext64 (s.r n), 2), (.cTasB n, sext64 (s.r n), 1),
        (.cTstB d, sext64 (s.getGbr + s.r 0), 1), (.cAndB d, sext64 (s.getGbr + s.r 0), 1),
        (.cOrB d, sext64 (s.getGbr + s.r 0), 1), (.cXorB d, sext64 (s.getGbr + s.r 0), 1),
        (.cLdcLGbr m, sext64 (s.r m), 4), (.cLdcLVbr m, sext64 (s.r m), 4), (.cLdsLMach m, sext64 (s.r m), 4),
        (.cLdsLMacl m, sext64 (s.r m), 4), (.cLdsLPr m, sext64 (s.r m), 4), (.cLdsLFpscr m, sext64 (s.r m), 4),
        (.cLdsLFpul m, sext64 (s.r m), 4),
        (.mLdB g imm k, s.g g + BitVec.ofInt 64 imm.toInt, 1), (.mLdW g imm k, s.g g + BitVec.ofInt 64 (imm.toInt * 2), 2),
        (.mLdL g imm k, s.g g + BitVec.ofInt 64 (imm.toInt * 4), 4),
        (.mLdQ g imm k, s.g g + BitVec.ofInt 64 (imm.toInt * 8), 8), (.mLdUb g imm k, s.g g + BitVec.ofInt 64 imm.toInt, 1),
        (.mLdUw g imm k, s.g g + BitVec.ofInt 64 (imm.toInt * 2), 2), (.mLdxB g h k, s.g g + s.g h, 1),
        (.mLdxW g h k, s.g g + s.g h, 2), (.mLdxL g h k, s.g g + s.g h, 4), (.mLdxQ g h k, s.g g + s.g h, 8),
        (.mLdxUb g h k, s.g g + s.g h, 1), (.mLdxUw g h k, s.g g + s.g h, 2), (.mSwapQ g h k, s.g g + s.g h, 8),
        (.mFldS g imm k, s.g g + BitVec.ofInt 64 (imm.toInt * 4), 4), (.mFldxS g h k, s.g g + s.g h, 4)] :
        List (Instr × Quad × Nat)) ∨
      k.toNat % 2 = 0 ∧ (i, a, z) ∈ ([(.mFldD g imm k, s.g g + BitVec.ofInt 64 (imm.toInt * 8), 8),
        (.mFldxD g h k, s.g g + s.g h, 8)] : List (Instr × Quad × Nat)) ∨
      l.toNat < 2 ^ 11 ∧ (i, a, z) = (.cMovLLoadDisp12 m l n, sext64 (s.r m + BitVec.ofNat 32 (l.toNat * 4)), 4) ∨
      s.fpSZ = false ∧ (i, a, z) ∈ ([(.cFmovLoad m n, sext64 (s.r m), 4), (.cFmovLoadInc m n, sext64 (s.r m), 4),
        (.cFmovLoadIdx m n, sext64 (s.r 0 + s.r m), 4)] : List (Instr × Quad × Nat)) →
      s.readFault a z = some x → ReportsMemory i s x) ∧
    -- one write
    ((i, a, z) ∈ ([
        (.cMovBStore m n, sext64 (s.r n), 1), (.cMovWStore m n, sext64 (s.r n), 2), (.cMovLStore m n, sext64 (s.r n), 4),
        (.cMovBStoreDec m n, sext64 (s.r n - 1), 1), (.cMovWStoreDec m n, sext64 (s.r n - 2), 2),
        (.cMovLStoreDec m n, sext64 (s.r n - 4), 4), (.cMovBStoreIdx m n, sext64 (s.r 0 + s.r n), 1),
        (.cMovWStoreIdx m n, sext64 (s.r 0 + s.r n), 2), (.cMovLStoreIdx m n, sext64 (s.r 0 + s.r n), 4),
        (.cMovBStoreDisp e n, sext64 (s.r n + BitVec.ofNat 32 e.toNat), 1),
        (.cMovWStoreDisp e n, sext64 (s.r n + BitVec.ofNat 32 (e.toNat * 2)), 2),
        (.cMovLStoreDisp m e n, sext64 (s.r n + BitVec.ofNat 32 (e.toNat * 4)), 4),
        (.cMovBStoreGbr d, sext64 (s.getGbr + BitVec.ofNat 32 d.toNat), 1),
        (.cMovWStoreGbr d, sext64 (s.getGbr + BitVec.ofNat 32 (d.toNat * 2)), 2),
        (.cMovLStoreGbr d, sext64 (s.getGbr + BitVec.ofNat 32 (d.toNat * 4)), 4), (.cMovcaL n, sext64 (s.r n), 4),
        (.cStcLGbr n, sext64 (s.r n - 4), 4), (.cStcLVbr n, sext64 (s.r n - 4), 4), (.cStsLMach n, sext64 (s.r n - 4), 4),
        (.cStsLMacl n, sext64 (s.r n - 4), 4), (.cStsLPr n, sext64 (s.r n - 4), 4), (.cStsLFpscr n, sext64 (s.r n - 4), 4),
        (.cStsLFpul n, sext64 (s.r n - 4), 4),
        (.mStB g imm k, s.g g + BitVec.ofInt 64 imm.toInt, 1), (.mStW g imm k, s.g g + BitVec.ofInt 64 (imm.toInt * 2), 2),
        (.mStL g imm k, s.g g + BitVec.ofInt 64 (imm.toInt * 4), 4),
        (.mStQ g imm k, s.g g + BitVec.ofInt 64 (imm.toInt * 8), 8), (.mStxB g h k, s.g g + s.g h, 1),
        (.mStxW g h k, s.g g + s.g h, 2), (.mStxL g h k, s.g g + s.g h, 4), (.mStxQ g h k, s.g g + s.g h, 8),
        (.mFstS g imm k, s.g g + BitVec.ofInt 64 (imm.toInt * 4), 4), (.mFstxS g h k, s.g g + s.g h, 4)] :
        List (Instr × Quad × Nat)) ∨
      k.toNat % 2 = 0 ∧ (i, a, z) ∈ ([(.mFstD g imm k, s.g g + BitVec.ofInt 64 (imm.toInt * 8), 8),
        (.mFstxD g h k, s.g g + s.g h, 8)] : List (Instr × Quad × Nat)) ∨
      l.toNat < 2 ^ 11 ∧ (i, a, z) = (.cMovLStoreDisp12 m l n, sext64 (s.r n + BitVec.ofNat 32 (l.toNat * 4)), 4) ∨
      s.fpSZ = false ∧ (i, a, z) ∈ ([(.cFmovStore m n, sext64 (s.r n), 4), (.cFmovStoreDec m n, sext64 (s.r n - 4), 4),
        (.cFmovStoreIdx m n, sext64 (s.r 0 + s.r n), 4)] : List (Instr × Quad × Nat)) →
      s.writeFault a z = some x → ReportsMemory i s x) ∧
    -- the second read of mac.l and mac.w
    ((i, z) ∈ ([(.cMacL m n, 4), (.cMacW m n, 2)] : List (Instr × Nat)) → s.readFault (sext64 (s.r n)) z = none →
      s.readFault (sext64 (if m = n then s.r n + BitVec.ofNat 32 z else s.r m)) z = some x → ReportsMemory i s x) ∧
    -- the write of a read-modify-write form
    ((i, a, z) ∈ ([
        (.cTasB n, sext64 (s.r n), 1), (.cAndB d, sext64 (s.getGbr + s.r 0), 1), (.cOrB d, sext64 (s.getGbr + s.r 0), 1),
        (.cXorB d, sext64 (s.getGbr + s.r 0), 1), (.mSwapQ g h k, s.g g + s.g h, 8)] : List (Instr × Quad × Nat)) →
      s.readFault a z = none → s.writeFault a z = some x → ReportsMemory i s x) ∧
    -- pairs
    (k.toNat % 2 = 0 ∧ (i, a) ∈ ([(.mFldP g imm k, s.g g + BitVec.ofInt 64 (imm.toInt * 8)),
        (.mFldxP g h k, s.g g + s.g h)] : List (Instr × Quad)) ∨
      l.toNat < 2 ^ 11 ∧ (i, a) = (.cFmovLoadDisp12 m l p, sext64 (s.r m + BitVec.ofNat 32 (l.toNat * 8))) ∨
      s.fpSZ = true ∧ (i, a) ∈ ([(.cFmovLoad m n, sext64 (s.r m)), (.cFmovLoadInc m n, sext64 (s.r m)),
        (.cFmovLoadIdx m n, sext64 (s.r 0 + s.r m))] : List (Instr × Quad)) →
      s.pairFault (s.readFault) a = some x → ReportsMemory i s x) ∧
    (k.toNat % 2 = 0 ∧ (i, a) ∈ ([(.mFstP g imm k, s.g g + BitVec.ofInt 64 (imm.toInt * 8)),
        (.mFstxP g h k, s.g g + s.g h)] : List (Instr × Quad)) ∨
      l.toNat < 2 ^ 11 ∧ (i, a) = (.cFmovStoreDisp12 p l n, sext64 (s.r n + BitVec.ofNat 32 (l.toNat * 8))) ∨
      s.fpSZ = true ∧ (i, a) ∈ ([(.cFmovStore m n, sext64 (s.r n)), (.cFmovStoreDec m n, sext64 (s.r n - 8)),
        (.cFmovStoreIdx m n, sext64 (s.r 0 + s.r n))] : List (Instr × Quad)) →
      s.pairFault (s.writeFault) a = some x → ReportsMemory i s x) ∧
    -- one-byte accesses
    (i ∈ ([.cMovuaL m, .cMovuaLInc m] : List Instr) →
      s.readFault x 1 = some x → ∀ j < 4, x = sext64 (s.r m) + BitVec.ofNat 64 j →
      (∀ b < j, s.readFault (sext64 (s.r m) + BitVec.ofNat 64 b) 1 = none) → ReportsMemory i s x) ∧
    (a = s.g g + BitVec.ofInt 64 u.toInt →
      ((i, z) ∈ ([(.mLdloL g u k, 4), (.mLdloQ g u k, 8)] : List (Instr × Nat)) →
        FirstFault s.readFault (blockPart (s.endian == .little) a z) x → ReportsMemory i s x) ∧
      ((i, z) ∈ ([(.mLdhiL g u k, 4), (.mLdhiQ g u k, 8)] : List (Instr × Nat)) →
        FirstFault s.readFault (blockPart (s.endian == .big) a z) x → ReportsMemory i s x) ∧
      ((i, z) ∈ ([(.mStloL g u k, 4), (.mStloQ g u k, 8)] : List (Instr × Nat)) →
        FirstFault s.writeFault (blockPart (s.endian == .little) a z) x → ReportsMemory i s x) ∧
      ((i, z) ∈ ([(.mSthiL g u k, 4), (.mSthiQ g u k, 8)] : List (Instr × Nat)) →
        FirstFault s.writeFault (blockPart (s.endian == .big) a z) x → ReportsMemory i s x))

/-! ### The whole machine (spec 10, 49, 60, 70) -/

/-- The registers right after reset. The value 0 is the model's choice: log entry 1, which takes `RESET_STATE = zero`, one of the
two choices of 70 R901. -/
def Obligations.ResetLeavesZero : Prop :=
  (∀ k, State.reset.g k = 0) ∧ (∀ k, State.reset.c k = 0) ∧ (∀ k, State.reset.t k = 0) ∧ (∀ k, State.reset.f k = 0) ∧
  (∀ a, State.reset.read8 a = 0) ∧ State.reset.getMac = 0 ∧ State.reset.getGbr = 0 ∧ State.reset.getPr = 0 ∧
  State.reset.getFpul = 0 ∧ State.reset.fpscr = 0 ∧ State.reset.vbr = 0 ∧ State.reset.pc = 0 ∧
  State.reset.ism = .compact ∧ State.reset.pending = none ∧ State.reset.dstate = .fetching ∧ State.reset.refused = none

/-- The invariant holds right after reset. -/
def Obligations.ResetMeetsInvariant : Prop := State.reset.Inv

/-- 49 R830, 10 R40, R49: every step keeps the invariant: memory stays canonical, PC even, the reserved bits of FPSCR 0, a
recorded branch belongs to compact mode, and `dstate` fits the report and is never `Executing`. -/
def Obligations.InvariantKeptByEveryStep : Prop := ∀ s t : State, s.Inv → step s = .next t → t.Inv

/-- 49 R824, 60 R851, R852, R853, R857, R858, 70 R902: every step answers a next state, with one of four outcomes: it completes
normally; or it reports `InvalidInstruction` or `MemoryFault` with its own tagged PC (0 where PC or ISM is unwritten), and nothing
but the report, `dstate` and the `refused` mark differs; or it reports `ExplicitTrap` with the tagged PC of the next instruction,
and only PC differs. That a `refused` mark which is already set stays, and that its pc is the tagged one, is the model's reading of
60 R856: log 13 (DEDUCED). -/
def Obligations.EveryStepHasOneOutcome : Prop :=
  ∀ s : State, ∃ t, step s = .next t ∧
    (t.dstate = .fetching ∧ t.event = .none ∧ t.refused = s.refused ∨
      t = { s with dstate := .faulted, event := t.event, refused := t.refused } ∧
        ((∃ a, t.event = .memoryFault a s.taggedPC) ∧ t.refused = s.refused ∨
          ∃ pc, (pc = s.taggedPC ∨ pc = 0 ∧ s.entryUnwritten = true) ∧ t.event = .invalidInstruction pc ∧
            (t.refused = s.refused ∨ s.refused = none ∧ ∃ w, t.refused = some ⟨w, pc⟩)) ∨
      (t = { s with pc := s.pc + 2, dstate := .trapped, event := t.event } ∨
        t = { s with pc := s.pc + 4, dstate := .trapped, event := t.event }) ∧
        ∃ code, t.event = .explicitTrap code t.taggedPC)

/-- 49 R831, 60 R861: the mode changes only where a tagged branch is committed after its slot, or by a media blink or conditional
branch, and then to the mode of bit 0 of the target. -/
def Obligations.ModeChangesOnlyByTransfers : Prop :=
  ∀ s t : State, step s = .next t → t.ism ≠ s.ism →
    (∃ p, s.pending = some p ∧ p.tagged = true ∧ t.pending = none ∧ t.ism = ismOfTag p.target) ∨
    ∃ (c : Code) (i : Instr) (a : TReg) (m n d : MReg) (imm : BitVec 6) (l : BitVec 1),
      s.fetch = .ok c ∧ decodeCode s.params.ext c = .ok i ∧ t.ism = ismOfTag (s.t a) ∧
      i ∈ ([.mBlink a d, .mBeq m n l a, .mBne m n l a, .mBge m n l a, .mBgt m n l a, .mBgeu m n l a, .mBgtu m n l a,
        .mBeqi m imm l a, .mBnei m imm l a] : List Instr)

/-- 10 R31, R36, R39, R45, R54: a media instruction leaves SR, but for putcon to CR0, and VBR, the separate compact registers
and `pending`; a compact one leaves the target registers, the control registers past SR, the mode, GR19 to GR62 and
FR33 to FR63. -/
def Obligations.EachEncodingKeepsTheOthersState : Prop :=
  ∀ (i : Instr) (s t : State), exec i s = .next t →
    (codeIsm (encode i) = .media →
      ((∀ m, i ≠ .mPutcon m 0) → t.sr = s.sr) ∧ t.vbr = s.vbr ∧ t.gbr = s.gbr ∧ t.mach = s.mach ∧ t.macl = s.macl ∧
      t.pr = s.pr ∧ t.fpul = s.fpul ∧ t.pending = s.pending ∧ t.draws = s.draws) ∧
    (codeIsm (encode i) = .compact →
      t.tr = s.tr ∧ t.cr = s.cr ∧ t.ism = s.ism ∧ (∀ k : MReg, 19 ≤ k.toNat → t.g k = s.g k) ∧
      (∀ k : MReg, 33 ≤ k.toNat → t.f k = s.f k))

/-- 10 R44, 60 R856: no step changes the byte order or the parameters, and no step clears the `refused` mark. That no step
replaces a mark which is already set is the model's reading of 60 R856: log 13 (DEDUCED). -/
def Obligations.StepsKeepWhatIsFixed : Prop :=
  ∀ (n : Nat) (s t : State), StepsTo n s t → t.endian = s.endian ∧ t.params = s.params ∧
    (s.refused ≠ none → t.refused = s.refused)

/-- 10 R57, 49 R829, 70 R900: a named register the host wrote reads as written, but for the bits that the register does not have;
a write of PC clears `pending`; `Reset()` keeps memory. That a narrow register takes the low bits of the written value and reads
zero-extended is the model's reading of 10 R57: log 19 (DEDUCED). -/
def Obligations.HostWritesReadBack : Prop :=
  ∀ (s : State) (v : Quad) (k : MReg) (a : TReg),
    readReg (writeReg s v (.gr k)) (.gr k) = (if k = 63 then 0 else v) ∧
    readReg (writeReg s v (.cr k)) (.cr k) = (if k = 0 then BitVec.ofNat 64 (v.toNat % 2 ^ 32) else v) ∧
    readReg (writeReg s v (.tr a)) (.tr a) = v ∧
    (∀ r ∈ [RegName.fr k, .sr, .gbr, .vbr, .pr, .mach, .macl, .fpul],
      readReg (writeReg s v r) r = BitVec.ofNat 64 (v.toNat % 2 ^ 32)) ∧
    readReg (writeReg s v .fpscr) .fpscr = BitVec.ofNat 64 (v.toNat % 2 ^ 22) ∧
    (∀ r ∈ [RegName.flagT, .flagS, .flagQ, .flagM], readReg (writeReg s v r) r = BitVec.ofNat 64 (v.toNat % 2)) ∧
    readReg (writeReg s v .pc) .pc = v ∧ (writeReg s v .pc).pending = none ∧
    (hostReset s).mem = s.mem ∧ (hostReset s).pending = none ∧ (hostReset s).refused = none ∧
    readRegister s "GR64" = none ∧ readRegister s "FPUL" = some (readReg s .fpul) ∧
    (s.params.resetState = .zero → readReg s .fpul = zext64 s.getFpul)

/-! ### Unwritten registers (spec 70 R902): what a run under `RESET_STATE = unwritten` refuses and remembers -/

/-- 70 R902: under `RESET_STATE = unwritten`, a step whose PC or ISM has an unwritten bit is refused, with `pc` reported as 0; a step
whose instruction reads an unwritten bit is refused with its own tagged PC, and otherwise it runs. Each line names an instruction
and the bits that its rule reads: implicit flags and registers, slices, FPSCR.PR, SZ and FR at the decode of a compact FP
instruction. `Reset()` leaves every bit unwritten, and the host reads an unwritten bit as 0. That the FPSCR and FPUL transfers are
compact FP instructions, and that a slice counts by its bits, is the model's reading: logs 20 and 21 (DEDUCED). -/
def Obligations.UnwrittenReadsAreRefused : Prop :=
  ∀ (s : State) (c : Code) (i : Instr), s.params.resetState = .unwritten →
    (¬ (s.BitsWritten .pc 63 0 ∧ s.BitsWritten .ism 0 0) → StepRefusedAt s 0) ∧
    (s.BitsWritten .pc 63 0 → s.BitsWritten .ism 0 0 → s.fetch = .ok c → decodeCode s.params.ext c = .ok i →
      s.pending = none →
      (s.written.hasAll (access i s).reads = false → StepRefusedAt s s.taggedPC) ∧
      (s.written.hasAll (access i s).reads = true → StepRuns s i) ∧
      ∀ (m n : CReg) (g h k : MReg) (a : TReg) (d : BitVec 8) (u : BitVec 10) (l : BitVec 1) (reads : List (Store × Nat × Nat)),
        (i, reads) ∈ ([
          (.cAddc m n, [(.gr (creg m), 31, 0), (.gr (creg n), 31, 0), (.sr, 0, 0)]),
          (.cNegc m n, [(.gr (creg m), 31, 0), (.sr, 0, 0)]),
          (.cDiv1 m n, [(.gr (creg m), 31, 0), (.gr (creg n), 31, 0), (.sr, 0, 0), (.sr, 9, 8)]),
          (.cDiv0s m n, [(.gr (creg m), 31, 31), (.gr (creg n), 31, 31)]), (.cDiv0u, []),
          (.cExtsB m n, [(.gr (creg m), 7, 0)]), (.cExtuW m n, [(.gr (creg m), 15, 0)]),
          (.cXtrct m n, [(.gr (creg m), 15, 0), (.gr (creg n), 31, 16)]),
          (.cMovt n, [(.sr, 0, 0)]), (.cBt d, [(.sr, 0, 0)]), (.cBfS d, [(.sr, 0, 0)]), (.cRotcl n, [(.gr (creg n), 31, 0), (.sr, 0, 0)]),
          (.cMovImm d n, []), (.cMova d, []), (.cClrmac, []), (.cSett, []), (.cTrapa d, []), (.cPref n, []),
          (.cMovBStore m n, [(.gr (creg n), 31, 0), (.gr (creg m), 7, 0)]),
          (.cMovWLoadInc m n, [(.gr (creg m), 31, 0)]), (.cLdcSr m, [(.gr (creg m), 31, 0)]),
          (.cStcVbr n, [(.vbr, 31, 0)]),
          (.mAdd g h k, [(.gr g, 63, 0), (.gr h, 63, 0)]), (.mAddL g h k, [(.gr g, 31, 0), (.gr h, 31, 0)]),
          (.mMovi 0 k, []), (.mShori 0 k, [(.gr k, 63, 0)]), (.mMcmv g h k, [(.gr g, 63, 0), (.gr h, 63, 0), (.gr k, 63, 0)]),
          (.mShlldL g h k, [(.gr g, 31, 0), (.gr h, 4, 0)]), (.mStW g u k, [(.gr g, 63, 0), (.gr k, 15, 0)]),
          (.mLdxB g h k, [(.gr g, 63, 0), (.gr h, 63, 0)]), (.mBlink a k, [(.tr a, 63, 0)]), (.mGettr a k, [(.tr a, 63, 0)]),
          (.mPtrel g l a, [(.gr g, 63, 0)]), (.mGetcon 0 k, [(.sr, 31, 0)]), (.mGetcon 1 k, [(.cr 1, 63, 0)]),
          (.mFgetscr k, [(.fpscr, 31, 0)]), (.mFaddS g h k, [(.fr g, 31, 0), (.fr h, 31, 0)]),
          (.mFldS g u k, [(.gr g, 63, 0)]), (.mNop, [])] : List (Instr × List (Store × Nat × Nat))) ∨
        (s.params.storage = .aliased ∧ (i, reads) ∈ ([(.cRts, [(.gr 18, 31, 0)]), (.cStsMacl n, [(.gr 17, 31, 0)]),
          (.cStsMach n, [(.gr 17, 63, 32)]), (.cStcGbr n, [(.gr 16, 31, 0)]), (.cStsFpul n, [(.fpscr, 21, 19), (.fr 32, 31, 0)]),
          (.cMacL m n, [(.gr (creg m), 31, 0), (.gr (creg n), 31, 0), (.sr, 1, 1), (.gr 17, 63, 0)])] :
          List (Instr × List (Store × Nat × Nat)))) ∨
        (s.params.storage = .separate ∧ (i, reads) ∈ ([(.cRts, [(.pr, 31, 0)]), (.cStsMacl n, [(.macl, 31, 0)]),
          (.cStsMach n, [(.mach, 31, 0)]), (.cStcGbr n, [(.gbr, 31, 0)]), (.cStsFpul n, [(.fpscr, 21, 19), (.fpul, 31, 0)]),
          (.cMacL m n, [(.gr (creg m), 31, 0), (.gr (creg n), 31, 0), (.sr, 1, 1), (.mach, 31, 0), (.macl, 31, 0)])] :
          List (Instr × List (Store × Nat × Nat)))) ∨
        (s.fpPR = false ∧ s.fpFR = false ∧ (i, reads) ∈ ([
          (.cFadd m n, [(.fpscr, 21, 19), (.fr (creg m), 31, 0), (.fr (creg n), 31, 0)]),
          (.cFldi1 n, [(.fpscr, 21, 19)]), (.cFrchg, [(.fpscr, 21, 19)]), (.cFschg, [(.fpscr, 21, 19)]),
          (.cLdsFpscr m, [(.fpscr, 21, 19), (.gr (creg m), 21, 0)])] : List (Instr × List (Store × Nat × Nat)))) →
        ((∀ x ∈ reads, s.BitsWritten x.1 x.2.1 x.2.2) → StepRuns s i) ∧
        (¬ (∀ x ∈ reads, s.BitsWritten x.1 x.2.1 x.2.2) → StepRefusedAt s s.taggedPC)) ∧
    (hostReset s).written = Written.none ∧ (hostReset s).params = s.params ∧ (∀ r, readReg (hostReset s) r = 0) ∧
    (∀ k, readReg s (.gr k) = s.g k &&& s.written.get (.gr k)) ∧ s.BitsWritten (.gr 63) 63 0

/-- 70 R902: under `RESET_STATE = unwritten`, no step makes a written bit unwritten, every bit of a register that a step changes is
written after it, and a write of T, of MACL or of a control register through its own instruction marks no other bit; a host write
of PC marks PC and ISM. The bits of GR[17] that MACL occupies are those of 10 R38. -/
def Obligations.WrittenBitsCoverChanges : Prop :=
  ∀ (s t : State) (c : Code) (i : Instr), s.params.resetState = .unwritten →
    (step s = .next t →
      (∀ r b, (s.written.get r).getLsbD b = true → (t.written.get r).getLsbD b = true) ∧
      (∀ k b, (t.g k).getLsbD b ≠ (s.g k).getLsbD b → (t.written.get (.gr k)).getLsbD b = true) ∧
      (∀ b, t.sr.getLsbD b ≠ s.sr.getLsbD b → (t.written.get .sr).getLsbD b = true) ∧
      (∀ k b, k ≠ 0 → (t.c k).getLsbD b ≠ (s.c k).getLsbD b → (t.written.get (.cr k)).getLsbD b = true) ∧
      (∀ k b, (t.t k).getLsbD b ≠ (s.t k).getLsbD b → (t.written.get (.tr k)).getLsbD b = true) ∧
      (∀ k b, (t.f k).getLsbD b ≠ (s.f k).getLsbD b → (t.written.get (.fr k)).getLsbD b = true) ∧
      (∀ b, t.fpscr.getLsbD b ≠ s.fpscr.getLsbD b → (t.written.get .fpscr).getLsbD b = true) ∧
      (∀ b, t.vbr.getLsbD b ≠ s.vbr.getLsbD b → (t.written.get .vbr).getLsbD b = true) ∧
      (∀ b, t.gbr.getLsbD b ≠ s.gbr.getLsbD b → (t.written.get .gbr).getLsbD b = true) ∧
      (∀ b, t.mach.getLsbD b ≠ s.mach.getLsbD b → (t.written.get .mach).getLsbD b = true) ∧
      (∀ b, t.macl.getLsbD b ≠ s.macl.getLsbD b → (t.written.get .macl).getLsbD b = true) ∧
      (∀ b, t.pr.getLsbD b ≠ s.pr.getLsbD b → (t.written.get .pr).getLsbD b = true) ∧
      (∀ b, t.fpul.getLsbD b ≠ s.fpul.getLsbD b → (t.written.get .fpul).getLsbD b = true)) ∧
    (s.fetch = .ok c → decodeCode s.params.ext c = .ok i → s.pending = none → step s = .next t → t.dstate = .fetching →
      (i = .cSett → t.written = { s.written with sr := s.written.sr ||| 1 }) ∧
      (∀ m n, s.params.storage = .aliased → i = .cMulL m n →
        t.written.get (.gr 17) = s.written.get (.gr 17) ||| 0xFFFFFFFF ∧ t.written.fr = s.written.fr ∧
        t.written.sr = s.written.sr ∧ ∀ k : MReg, k ≠ 17 → t.written.get (.gr k) = s.written.get (.gr k)) ∧
      (∀ m n, s.params.storage = .separate → i = .cMulL m n → t.written = { s.written with macl := BitVec.allOnes 32 }) ∧
      (∀ m, i = .cLdcVbr m → t.written = { s.written with vbr := BitVec.allOnes 32 })) ∧
    (∀ v, (writeReg s v .pc).written = { s.written with pc := BitVec.allOnes 64, ism := 1 }) ∧
    (∀ v, (writeReg s v .flagT).written = { s.written with sr := s.written.sr ||| 1 })

/-! ### The floating-point helpers (spec 48): `value` and `Rounded` stand in Sys2Proof/Machine/FpValue.lean -/

/-- 48 R732, R734 to R738, R743 to R745, R747: a NaN operand gives `FP_NAN`, whichever NaN it is, and is unordered; the invalid
operations give `FP_NAN` too; the zeros and infinities have the sign the rules give, in both formats. `n` is a NaN, `z` a zero, `i`
an infinity, `x` any finite value, `y` any pattern. -/
def Obligations.FpNansZerosAndInfinities : Prop :=
  (∀ (n x y z i : Word),
    (binary32.nan n.toNat = true →
      binary32.nan fpNan32.toNat = true ∧ fAdd32 n y = fpNan32 ∧ fAdd32 y n = fpNan32 ∧ fSub32 n y = fpNan32 ∧
        fSub32 y n = fpNan32 ∧
      fMul32 n y = fpNan32 ∧ fMul32 y n = fpNan32 ∧ fDiv32 n y = fpNan32 ∧ fDiv32 y n = fpNan32 ∧ fSqrt32 n = fpNan32 ∧
        fCmpEq32 n y = false ∧
      fCmpEq32 y n = false ∧ fCmpGt32 n y = false ∧ fCmpGt32 y n = false ∧ fCmpGe32 n y = false ∧ fCmpGe32 y n = false ∧
      fCmpUn32 n y = true ∧ fCmpUn32 y n = true ∧ (∀ v, fMulAdd32 n y v = fpNan32 ∧ fMulAdd32 y n v = fpNan32 ∧
        fMulAdd32 y v n = fpNan32) ∧
      fCvtF32toF64 n = fpNan64) ∧
    (binary32.finite x.toNat = true → (z = 0 ∨ z = 0x80000000) → (i = 0x7F800000 ∨ i = 0xFF800000) →
      fMul32 z i = fpNan32 ∧ fMul32 i z = fpNan32 ∧ fDiv32 i i = fpNan32 ∧ fDiv32 i (fNeg32 i) = fpNan32 ∧
      fDiv32 z 0 = fpNan32 ∧ fDiv32 z 0x80000000 = fpNan32 ∧ fAdd32 i (fNeg32 i) = fpNan32 ∧ fSub32 i i = fpNan32 ∧
      fSqrt32 0xFF800000 = fpNan32 ∧ (x.msb = true → x ≠ 0x80000000 → fSqrt32 x = fpNan32) ∧ fSub32 x x = 0 ∧
      fAdd32 0x80000000 0x80000000 = 0x80000000 ∧ fSqrt32 z = z ∧ fSqrt32 0x7F800000 = 0x7F800000 ∧
      fMul32 x z = (x ^^^ z) &&& 0x80000000 ∧ fDiv32 x i = (x ^^^ i) &&& 0x80000000 ∧ fAdd32 i x = i ∧ fAdd32 x i = i ∧
      fAdd32 i i = i ∧ fSub32 i x = i ∧ fSub32 x i = fNeg32 i ∧ fSub32 i (fNeg32 i) = i ∧ fMul32 i i = 0x7F800000 ∧
      fMul32 i (fNeg32 i) = 0xFF800000 ∧ fDiv32 i x = 0x7F800000 ||| ((i ^^^ x) &&& 0x80000000) ∧
      (x.extractLsb' 0 31 ≠ 0 → fDiv32 x z = 0x7F800000 ||| ((x ^^^ z) &&& 0x80000000) ∧
        fMul32 x i = 0x7F800000 ||| ((x ^^^ i) &&& 0x80000000) ∧ fMul32 i x = 0x7F800000 ||| ((i ^^^ x) &&& 0x80000000)) ∧
      fCmpEq32 0 0x80000000 = true ∧ fCmpGt32 0 0x80000000 = false ∧ fCmpGe32 0x80000000 0 = true ∧
      fCmpEq32 i i = true ∧ fCmpEq32 i x = false ∧ fCmpEq32 x i = false ∧ fCmpEq32 i (fNeg32 i) = false ∧
      fCmpGt32 i i = false ∧ fCmpGe32 i i = true ∧ fCmpGt32 0x7F800000 x = true ∧ fCmpGt32 x 0xFF800000 = true ∧
      fCmpGt32 0x7F800000 0xFF800000 = true ∧ fCmpGt32 x 0x7F800000 = false ∧ fCmpGt32 0xFF800000 x = false ∧
      fCmpGt32 0xFF800000 0x7F800000 = false ∧ fCmpGe32 0x7F800000 x = true ∧ fCmpGe32 x 0xFF800000 = true ∧
      fCmpGe32 x 0x7F800000 = false ∧ fCmpGe32 0xFF800000 x = false ∧ fCmpUn32 i x = false ∧ fCmpUn32 x i = false ∧
      fCmpUn32 i i = false ∧ fMulAdd32 z i y = fpNan32 ∧ fMulAdd32 i z y = fpNan32 ∧
      (x.extractLsb' 0 31 ≠ 0 → ∀ p, p = 0x7F800000 ||| ((x ^^^ i) &&& 0x80000000) →
        fMulAdd32 i x (fNeg32 p) = fpNan32 ∧ fMulAdd32 x i (fNeg32 p) = fpNan32 ∧ fMulAdd32 i x p = p ∧
          (binary32.finite y.toNat = true → fMulAdd32 i x y = p ∧ fMulAdd32 x i y = p)) ∧
      (binary32.finite y.toNat = true → fMulAdd32 x y i = i) ∧
      fCvtF32toF64 i = (if i = 0x7F800000 then 0x7FF0000000000000 else 0xFFF0000000000000))) ∧
  (∀ (n x y z i : Quad),
    (binary64.nan n.toNat = true →
      binary64.nan fpNan64.toNat = true ∧ fAdd64 n y = fpNan64 ∧ fAdd64 y n = fpNan64 ∧ fSub64 n y = fpNan64 ∧
        fSub64 y n = fpNan64 ∧
      fMul64 n y = fpNan64 ∧ fMul64 y n = fpNan64 ∧ fDiv64 n y = fpNan64 ∧ fDiv64 y n = fpNan64 ∧ fSqrt64 n = fpNan64 ∧
        fCmpEq64 n y = false ∧
      fCmpEq64 y n = false ∧ fCmpGt64 n y = false ∧ fCmpGt64 y n = false ∧ fCmpGe64 n y = false ∧ fCmpGe64 y n = false ∧
      fCmpUn64 n y = true ∧ fCmpUn64 y n = true ∧ fCvtF64toF32 n = fpNan32) ∧
    (binary64.finite x.toNat = true → (z = 0 ∨ z = 0x8000000000000000) →
      (i = 0x7FF0000000000000 ∨ i = 0xFFF0000000000000) →
      fMul64 z i = fpNan64 ∧ fMul64 i z = fpNan64 ∧ fDiv64 i i = fpNan64 ∧ fDiv64 i (fNeg64 i) = fpNan64 ∧
      fDiv64 z 0 = fpNan64 ∧ fDiv64 z 0x8000000000000000 = fpNan64 ∧ fAdd64 i (fNeg64 i) = fpNan64 ∧
      fSub64 i i = fpNan64 ∧ fSqrt64 0xFFF0000000000000 = fpNan64 ∧
      (x.msb = true → x ≠ 0x8000000000000000 → fSqrt64 x = fpNan64) ∧ fSub64 x x = 0 ∧
      fAdd64 0x8000000000000000 0x8000000000000000 = 0x8000000000000000 ∧ fSqrt64 z = z ∧
      fSqrt64 0x7FF0000000000000 = 0x7FF0000000000000 ∧ fMul64 x z = (x ^^^ z) &&& 0x8000000000000000 ∧
      fDiv64 x i = (x ^^^ i) &&& 0x8000000000000000 ∧ fAdd64 i x = i ∧ fAdd64 x i = i ∧ fAdd64 i i = i ∧
      fSub64 i x = i ∧ fSub64 x i = fNeg64 i ∧ fSub64 i (fNeg64 i) = i ∧ fMul64 i i = 0x7FF0000000000000 ∧
      fMul64 i (fNeg64 i) = 0xFFF0000000000000 ∧
      fDiv64 i x = 0x7FF0000000000000 ||| ((i ^^^ x) &&& 0x8000000000000000) ∧
      (x.extractLsb' 0 63 ≠ 0 → fDiv64 x z = 0x7FF0000000000000 ||| ((x ^^^ z) &&& 0x8000000000000000) ∧
        fMul64 x i = 0x7FF0000000000000 ||| ((x ^^^ i) &&& 0x8000000000000000) ∧
          fMul64 i x = 0x7FF0000000000000 ||| ((i ^^^ x) &&& 0x8000000000000000)) ∧
      fCmpEq64 0 0x8000000000000000 = true ∧ fCmpGt64 0 0x8000000000000000 = false ∧
      fCmpGe64 0x8000000000000000 0 = true ∧ fCmpEq64 i i = true ∧ fCmpEq64 i x = false ∧ fCmpEq64 x i = false ∧
      fCmpEq64 i (fNeg64 i) = false ∧ fCmpGt64 i i = false ∧ fCmpGe64 i i = true ∧
      fCmpGt64 0x7FF0000000000000 x = true ∧ fCmpGt64 x 0xFFF0000000000000 = true ∧
      fCmpGt64 0x7FF0000000000000 0xFFF0000000000000 = true ∧ fCmpGt64 x 0x7FF0000000000000 = false ∧
      fCmpGt64 0xFFF0000000000000 x = false ∧ fCmpGt64 0xFFF0000000000000 0x7FF0000000000000 = false ∧
      fCmpGe64 0x7FF0000000000000 x = true ∧ fCmpGe64 x 0xFFF0000000000000 = true ∧
      fCmpGe64 x 0x7FF0000000000000 = false ∧ fCmpGe64 0xFFF0000000000000 x = false ∧ fCmpUn64 i x = false ∧
      fCmpUn64 x i = false ∧ fCmpUn64 i i = false ∧
      fCvtF64toF32 i = (if i = 0x7FF0000000000000 then 0x7F800000 else 0xFF800000)))

/-- 48 R731, R733 to R737, R743: sums, differences, products and the fused multiply-add of finite operands are the exact result
rounded once, in both formats; an exact zero has the sign the rules give. -/
def Obligations.FpSumsAndProductsRound : Prop :=
  (∀ a b c : Word, binary32.finite a.toNat = true → binary32.finite b.toNat = true → binary32.finite c.toNat = true →
    ∀ x y z : ℚ, x = binary32.value a.toNat → y = binary32.value b.toNat → z = binary32.value c.toNat →
    Rounded binary32 (x + y : ℚ) (a.msb && b.msb) (fAdd32 a b).toNat ∧
    Rounded binary32 (x - y : ℚ) (a.msb && !b.msb) (fSub32 a b).toNat ∧
    Rounded binary32 (x * y : ℚ) (a.msb ^^ b.msb) (fMul32 a b).toNat ∧
    Rounded binary32 (x * y + z : ℚ) ((a.msb ^^ b.msb) && c.msb) (fMulAdd32 a b c).toNat) ∧
  (∀ a b : Quad, binary64.finite a.toNat = true → binary64.finite b.toNat = true →
    ∀ x y : ℚ, x = binary64.value a.toNat → y = binary64.value b.toNat →
    Rounded binary64 (x + y : ℚ) (a.msb && b.msb) (fAdd64 a b).toNat ∧
    Rounded binary64 (x - y : ℚ) (a.msb && !b.msb) (fSub64 a b).toNat ∧
    Rounded binary64 (x * y : ℚ) (a.msb ^^ b.msb) (fMul64 a b).toNat)

/-- 48 R731, R733, R734, R744, R745: a quotient by a divisor that is not zero, and the square root of a value that is not negative,
are the exact result rounded once, in both formats. -/
def Obligations.FpQuotientsAndRootsRound : Prop :=
  (∀ a b : Word, binary32.finite a.toNat = true → binary32.finite b.toNat = true →
    ∀ x y : ℚ, x = binary32.value a.toNat → y = binary32.value b.toNat →
    (y ≠ 0 → Rounded binary32 (x / y : ℚ) (a.msb ^^ b.msb) (fDiv32 a b).toNat) ∧
    (0 ≤ x → Rounded binary32 (Real.sqrt x) a.msb (fSqrt32 a).toNat)) ∧
  (∀ a b : Quad, binary64.finite a.toNat = true → binary64.finite b.toNat = true →
    ∀ x y : ℚ, x = binary64.value a.toNat → y = binary64.value b.toNat →
    (y ≠ 0 → Rounded binary64 (x / y : ℚ) (a.msb ^^ b.msb) (fDiv64 a b).toNat) ∧
    (0 ≤ x → Rounded binary64 (Real.sqrt x) a.msb (fSqrt64 a).toNat))

/-- 48 R731, R733, R734, R738, R740, R746, R747: a comparison of finite operands is that of their values; an integer converts to its
rounded value, and exactly from 32 bits to binary64; a conversion to binary64 is exact, and one to binary32 rounds; a conversion to
an integer truncates, and gives the open `FP_CVT_INVALID` (log 9) for an infinity, a NaN and what does not fit. -/
def Obligations.FpConversionsAndComparisons : Prop :=
  (∀ a b : Word, binary32.finite a.toNat = true → binary32.finite b.toNat = true →
    ∀ x y : ℚ, x = binary32.value a.toNat → y = binary32.value b.toNat →
    (fCmpEq32 a b = true ↔ x = y) ∧ (fCmpGt32 a b = true ↔ y < x) ∧ (fCmpGe32 a b = true ↔ y ≤ x) ∧ fCmpUn32 a b = false ∧
    binary64.finite (fCvtF32toF64 a).toNat = true ∧ binary64.value (fCvtF32toF64 a).toNat = x ∧
    (fCvtF32toF64 a).msb = a.msb) ∧
  (∀ a b : Quad, binary64.finite a.toNat = true → binary64.finite b.toNat = true →
    ∀ x y : ℚ, x = binary64.value a.toNat → y = binary64.value b.toNat →
    (fCmpEq64 a b = true ↔ x = y) ∧ (fCmpGt64 a b = true ↔ y < x) ∧ (fCmpGe64 a b = true ↔ y ≤ x) ∧ fCmpUn64 a b = false ∧
    Rounded binary32 x a.msb (fCvtF64toF32 a).toNat) ∧
  (∀ (i : Word) (j : Quad),
    Rounded binary32 i.toInt false (fCvtI32toF32 i).toNat ∧
    binary64.finite (fCvtI32toF64 i).toNat = true ∧ binary64.value (fCvtI32toF64 i).toNat = i.toInt ∧
    (i = 0 → fCvtI32toF64 i = 0) ∧
    Rounded binary32 j.toInt false (fCvtI64toF32 j).toNat ∧ Rounded binary64 j.toInt false (fCvtI64toF64 j).toNat) ∧
  (∀ (a : Word) (b : Quad) (t u : Int), t = truncated (binary32.value a.toNat) → u = truncated (binary64.value b.toNat) →
    fCvtF32toI32 a = (if binary32.finite a.toNat = true ∧ -2 ^ 31 ≤ t ∧ t < 2 ^ 31 then BitVec.ofInt 32 t
      else Config.fpCvtInvalid 32 32 a) ∧
    fCvtF32toI64 a = (if binary32.finite a.toNat = true ∧ -2 ^ 63 ≤ t ∧ t < 2 ^ 63 then BitVec.ofInt 64 t
      else Config.fpCvtInvalid 64 32 a) ∧
    fCvtF64toI32 b = (if binary64.finite b.toNat = true ∧ -2 ^ 31 ≤ u ∧ u < 2 ^ 31 then BitVec.ofInt 32 u
      else Config.fpCvtInvalid 32 64 b) ∧
    fCvtF64toI64 b = (if binary64.finite b.toNat = true ∧ -2 ^ 63 ≤ u ∧ u < 2 ^ 63 then BitVec.ofInt 64 u
      else Config.fpCvtInvalid 64 64 b))

/-- 48 R741, R742: the dot product and each element of the matrix transform meet the constraints on `FP_DOT4` and `FP_MTRX` (log
10): `FP_NAN` for a NaN input or an `inf × 0` product, and the exact value where every product and partial sum is representable.
That the constraints on `FP_MTRX` hold row by row is the model's reading: log 10 (DEDUCED). -/
def Obligations.FpDotProductsMeetConstraints : Prop :=
  ∀ (v w : Vector Word 4) (m : Vector Word 16), DotAdmissible v w (fDot4 v w) ∧
    ∀ i < 4, DotAdmissible (four (m.getD i 0) (m.getD (i + 4) 0) (m.getD (i + 8) 0) (m.getD (i + 12) 0)) v (fMtrx m v i)
end

