-- ==== Sys2Proof/Laws/Encoding.lean ====
section
/-! SUPPORT. The fields of an encoded word are the ones put in: one lemma per field and shape of word. -/

namespace Sys2Proof

theorem extract_hi {p q : Nat} (x : BitVec p) (y : BitVec q) (k w : Nat) (h : q ≤ k) :
    (x ++ y).extractLsb' k w = x.extractLsb' (k - q) w := by
  apply BitVec.eq_of_getLsbD_eq
  intro i hi
  have : ¬ k + i < q := by omega
  simp only [BitVec.getLsbD_extractLsb', BitVec.getLsbD_append, this, if_false]
  rw [show k - q + i = k + i - q by omega]

theorem extract_lo {p q : Nat} (x : BitVec p) (y : BitVec q) (k w : Nat) (h : k + w ≤ q) :
    (x ++ y).extractLsb' k w = y.extractLsb' k w := by
  apply BitVec.eq_of_getLsbD_eq
  intro i hi
  have : k + i < q := by omega
  simp only [BitVec.getLsbD_extractLsb', BitVec.getLsbD_append, this, if_true]

theorem extract_all {w : Nat} (x : BitVec w) : x.extractLsb' 0 w = x := by simp

@[simp] theorem hi31 (n : BitVec 3) (b : BitVec 1) : (n ++ b).extractLsb' 1 3 = n := by
  rw [extract_hi _ _ _ _ (by decide)]; exact extract_all n
@[simp] theorem lo31 (n : BitVec 3) (b : BitVec 1) : (n ++ b).extractLsb' 0 1 = b := by
  rw [extract_lo _ _ _ _ (by decide)]; exact extract_all b
@[simp] theorem hi22 (n b : BitVec 2) : (n ++ b).extractLsb' 2 2 = n := by
  rw [extract_hi _ _ _ _ (by decide)]; exact extract_all n
@[simp] theorem lo22 (n b : BitVec 2) : (n ++ b).extractLsb' 0 2 = b := by
  rw [extract_lo _ _ _ _ (by decide)]; exact extract_all b

theorem append_extract (x : BitVec 20) : x.extractLsb' 16 4 ++ x.extractLsb' 0 16 = x := by
  apply BitVec.eq_of_getLsbD_eq
  intro i hi
  simp only [BitVec.getLsbD_append, BitVec.getLsbD_extractLsb', Nat.zero_add]
  by_cases h : i < 16
  · simp [h]
  · have e : 16 + (i - 16) = i := by omega
    have l : i - 16 < 4 := by omega
    simp [h, e, l]

section
variable (t n m z : BitVec 4) (i8 : BitVec 8) (d12 : BitVec 12)

@[simp] theorem topN_c4 : topN (c4 t n m z) = t := by
  rw [topN, c4, extract_hi _ _ _ _ (by decide), extract_hi _ _ _ _ (by decide), extract_hi _ _ _ _ (by decide)]; exact extract_all t
@[simp] theorem nN_c4 : nN (c4 t n m z) = n := by
  rw [nN, c4, extract_hi _ _ _ _ (by decide), extract_hi _ _ _ _ (by decide), extract_lo _ _ _ _ (by decide)]; exact extract_all n
@[simp] theorem mN_c4 : mN (c4 t n m z) = m := by
  rw [mN, c4, extract_hi _ _ _ _ (by decide), extract_lo _ _ _ _ (by decide)]; exact extract_all m
@[simp] theorem zN_c4 : zN (c4 t n m z) = z := by
  rw [zN, c4, extract_lo _ _ _ _ (by decide)]; exact extract_all z
@[simp] theorem bits31_c4 : (c4 t n m z).extractLsb' 1 3 = z.extractLsb' 1 3 := by
  rw [c4, extract_lo _ _ _ _ (by decide)]
@[simp] theorem topN_c48 : topN (c48 t n i8) = t := by
  rw [topN, c48, extract_hi _ _ _ _ (by decide), extract_hi _ _ _ _ (by decide)]; exact extract_all t
@[simp] theorem nN_c48 : nN (c48 t n i8) = n := by
  rw [nN, c48, extract_hi _ _ _ _ (by decide), extract_lo _ _ _ _ (by decide)]; exact extract_all n
@[simp] theorem imm8F_c48 : imm8F (c48 t n i8) = i8 := by
  rw [imm8F, c48, extract_lo _ _ _ _ (by decide)]; exact extract_all i8
@[simp] theorem topN_c412 : topN (c412 t d12) = t := by
  rw [topN, c412, extract_hi _ _ _ _ (by decide)]; exact extract_all t
@[simp] theorem disp12F_c412 : disp12F (c412 t d12) = d12 := by
  rw [disp12F, c412, extract_lo _ _ _ _ (by decide)]; exact extract_all d12

end

section
variable (op m n d : BitVec 6) (e : BitVec 4) (i10 : BitVec 10) (i16 : BitVec 16)

@[simp] theorem opF_w6 : opF (w6 op m e n d) = op := by
  rw [opF, w6, extract_hi _ _ _ _ (by decide), extract_hi _ _ _ _ (by decide), extract_hi _ _ _ _ (by decide),
    extract_hi _ _ _ _ (by decide), extract_hi _ _ _ _ (by decide)]; exact extract_all op
@[simp] theorem mF_w6 : mF (w6 op m e n d) = m := by
  rw [mF, w6, extract_hi _ _ _ _ (by decide), extract_hi _ _ _ _ (by decide), extract_hi _ _ _ _ (by decide),
    extract_hi _ _ _ _ (by decide), extract_lo _ _ _ _ (by decide)]; exact extract_all m
@[simp] theorem extF_w6 : extF (w6 op m e n d) = e := by
  rw [extF, w6, extract_hi _ _ _ _ (by decide), extract_hi _ _ _ _ (by decide), extract_hi _ _ _ _ (by decide),
    extract_lo _ _ _ _ (by decide)]; exact extract_all e
@[simp] theorem nF_w6 : nF (w6 op m e n d) = n := by
  rw [nF, w6, extract_hi _ _ _ _ (by decide), extract_hi _ _ _ _ (by decide), extract_lo _ _ _ _ (by decide)]
  exact extract_all n
@[simp] theorem dF_w6 : dF (w6 op m e n d) = d := by
  rw [dF, w6, extract_hi _ _ _ _ (by decide), extract_lo _ _ _ _ (by decide)]; exact extract_all d
@[simp] theorem resF_w6 : resF (w6 op m e n d) = 0#4 := by
  rw [resF, w6, extract_lo _ _ _ _ (by decide)]; exact extract_all 0#4
@[simp] theorem opF_w10 : opF (w10 op m i10 d) = op := by
  rw [opF, w10, extract_hi _ _ _ _ (by decide), extract_hi _ _ _ _ (by decide), extract_hi _ _ _ _ (by decide),
    extract_hi _ _ _ _ (by decide)]; exact extract_all op
@[simp] theorem mF_w10 : mF (w10 op m i10 d) = m := by
  rw [mF, w10, extract_hi _ _ _ _ (by decide), extract_hi _ _ _ _ (by decide), extract_hi _ _ _ _ (by decide),
    extract_lo _ _ _ _ (by decide)]; exact extract_all m
@[simp] theorem imm10F_w10 : imm10F (w10 op m i10 d) = i10 := by
  rw [imm10F, w10, extract_hi _ _ _ _ (by decide), extract_hi _ _ _ _ (by decide), extract_lo _ _ _ _ (by decide)]
  exact extract_all i10
@[simp] theorem dF_w10 : dF (w10 op m i10 d) = d := by
  rw [dF, w10, extract_hi _ _ _ _ (by decide), extract_lo _ _ _ _ (by decide)]; exact extract_all d
@[simp] theorem resF_w10 : resF (w10 op m i10 d) = 0#4 := by
  rw [resF, w10, extract_lo _ _ _ _ (by decide)]; exact extract_all 0#4
@[simp] theorem opF_w16 : opF (w16 op i16 d) = op := by
  rw [opF, w16, extract_hi _ _ _ _ (by decide), extract_hi _ _ _ _ (by decide), extract_hi _ _ _ _ (by decide)]
  exact extract_all op
@[simp] theorem imm16F_w16 : imm16F (w16 op i16 d) = i16 := by
  rw [imm16F, w16, extract_hi _ _ _ _ (by decide), extract_hi _ _ _ _ (by decide), extract_lo _ _ _ _ (by decide)]
  exact extract_all i16
@[simp] theorem dF_w16 : dF (w16 op i16 d) = d := by
  rw [dF, w16, extract_hi _ _ _ _ (by decide), extract_lo _ _ _ _ (by decide)]; exact extract_all d
@[simp] theorem resF_w16 : resF (w16 op i16 d) = 0#4 := by
  rw [resF, w16, extract_lo _ _ _ _ (by decide)]; exact extract_all 0#4

end

section
variable (l : BitVec 1) (a : TReg)

@[simp] theorem likelyF_branchD : likelyF (branchD l a) = l := by
  rw [likelyF, branchD, extract_hi _ _ _ _ (by decide), extract_hi _ _ _ _ (by decide)]; exact extract_all l
@[simp] theorem branchRes_branchD : branchRes (branchD l a) = 0#2 := by
  rw [branchRes, branchD, extract_hi _ _ _ _ (by decide), extract_lo _ _ _ _ (by decide)]; exact extract_all 0#2
@[simp] theorem targetF_branchD : targetF (branchD l a) = a := by
  rw [targetF, branchD, extract_lo _ _ _ _ (by decide)]; exact extract_all a
@[simp] theorem trM_hi : (trM a).extractLsb' 3 3 = 0#3 := by
  rw [trM, extract_hi _ _ _ _ (by decide)]; exact extract_all 0#3
@[simp] theorem trM_lo : (trM a).extractLsb' 0 3 = a := by
  rw [trM, extract_lo _ _ _ _ (by decide)]; exact extract_all a

end

end Sys2Proof
end

