-- ==== Sys2Proof/Laws/Memory.lean ====
section
/-! SUPPORT. Memory: reading after writing, what a write leaves alone, and the canonical form, which every write keeps. -/

namespace Sys2Proof.Machine

/-! ### Reading after one write -/

theorem Memory.get_erase (m : Memory) (x y : Nat) :
    (m.erase x).get y = if y = x then Memory.unlisted else m.get y := by
  induction m with
  | nil => simp [Memory.erase, Memory.get]
  | cons c m ih =>
    obtain ⟨a, b⟩ := c
    simp only [Memory.erase] at ih
    by_cases h : a = x
    · subst h
      simp only [Memory.erase, List.filter_cons, bne_self_eq_false, Bool.false_eq_true, if_false, ih, Memory.get]
      by_cases hy : y = a
      · simp [hy]
      · simp [hy, Ne.symm hy]
    · simp only [Memory.erase, List.filter_cons, bne_iff_ne, ne_eq, h, not_false_iff, if_true, Memory.get, ih]
      by_cases hy : a = y
      · subst hy; simp [h]
      · simp [hy]

theorem Memory.get_insert (m : Memory) (x y : Nat) (b : Byte) (h : m.get x = Memory.unlisted)
    (hx : ∀ c ∈ m, c.1 ≠ x) : (Memory.insert m x b).get y = if y = x then b else m.get y := by
  induction m with
  | nil => by_cases hy : x = y <;> simp [Memory.insert, Memory.get, hy, eq_comm]
  | cons c m ih =>
    obtain ⟨a, d⟩ := c
    have hax : a ≠ x := hx (a, d) (List.mem_cons_self ..)
    have h' : Memory.get m x = Memory.unlisted := by simpa [Memory.get, hax] using h
    have ih' := ih h' fun c hc => hx c (List.mem_cons_of_mem _ hc)
    unfold Memory.insert
    split
    · simp [Memory.get, eq_comm]
    · simp only [Memory.get, ih']
      by_cases hy : a = y
      · subst hy; simp [hax]
      · simp [hy]

/-- What a byte write does to every byte. -/
theorem Memory.get_set (m : Memory) (x y : Nat) (b : Byte) : (m.set x b).get y = if y = x then b else m.get y := by
  unfold Memory.set
  split
  · rename_i h; rw [Memory.get_erase, h]
  · rw [Memory.get_insert]
    · rw [Memory.get_erase]; split <;> simp_all
    · rw [Memory.get_erase]; simp
    · intro c hc; simp [Memory.erase] at hc; exact hc.2

@[simp] theorem Memory.read8_write8 (m : Memory) (a x : Quad) (b : Byte) :
    (m.write8 a b).read8 x = if x = a then b else m.read8 x := by
  simp [Memory.write8, Memory.read8, Memory.get_set, BitVec.toNat_inj]

/-! ### Writing several bytes -/

/-- Whether `x` is one of the `n` addresses from `a` up (they wrap modulo 2^64). -/
def inRange (a : Quad) (n : Nat) (x : Quad) : Prop := ∃ i, i < n ∧ x = a + BitVec.ofNat 64 i

theorem inRange_succ (a x : Quad) (n : Nat) : inRange a (n + 1) x ↔ x = a ∨ inRange (a + 1) n x := by
  constructor
  · rintro ⟨i, hi, rfl⟩
    cases i with
    | zero => left; simp
    | succ i =>
      right
      refine ⟨i, by omega, ?_⟩
      rw [BitVec.add_assoc, show (1 : Quad) = BitVec.ofNat 64 1 from rfl, ← BitVec.ofNat_add, Nat.add_comm]
  · rintro (rfl | ⟨i, hi, rfl⟩)
    · exact ⟨0, by omega, by simp⟩
    · refine ⟨i + 1, by omega, ?_⟩
      rw [BitVec.add_assoc, show (1 : Quad) = BitVec.ofNat 64 1 from rfl, ← BitVec.ofNat_add, Nat.add_comm]

/-- A write leaves every byte outside its range alone. -/
theorem Memory.read8_writeBytes (m : Memory) (bs : List Byte) (a x : Quad) (h : ¬ inRange a bs.length x) :
    (m.writeBytes a bs).read8 x = m.read8 x := by
  induction bs generalizing m a with
  | nil => rfl
  | cons b bs ih =>
    rw [List.length_cons, inRange_succ, not_or] at h
    rw [Memory.writeBytes, ih _ _ h.2, Memory.read8_write8, if_neg h.1]

@[simp] theorem bytes16_length (e : Endian) (v : Half) : (bytes16 e v).length = 2 := by cases e <;> rfl
@[simp] theorem bytes32_length (e : Endian) (v : Word) : (bytes32 e v).length = 4 := by cases e <;> rfl
@[simp] theorem bytes64_length (e : Endian) (v : Quad) : (bytes64 e v).length = 8 := by cases e <;> rfl

theorem Memory.read8_write16 (m : Memory) (e : Endian) (a x : Quad) (v : Half) (h : ¬ inRange a 2 x) :
    (m.write16 e a v).read8 x = m.read8 x := Memory.read8_writeBytes _ _ _ _ (by simpa using h)

theorem Memory.read8_write32 (m : Memory) (e : Endian) (a x : Quad) (v : Word) (h : ¬ inRange a 4 x) :
    (m.write32 e a v).read8 x = m.read8 x := Memory.read8_writeBytes _ _ _ _ (by simpa using h)

theorem Memory.read8_write64 (m : Memory) (e : Endian) (a x : Quad) (v : Quad) (h : ¬ inRange a 8 x) :
    (m.write64 e a v).read8 x = m.read8 x := Memory.read8_writeBytes _ _ _ _ (by simpa using h)

/-! ### Reading the written value back -/

theorem append_halves (n m : Nat) (v : BitVec (m + n)) : v.extractLsb' n m ++ v.extractLsb' 0 n = v := by
  apply BitVec.eq_of_getLsbD_eq
  intro i hi
  simp only [BitVec.getLsbD_append, BitVec.getLsbD_extractLsb', Nat.zero_add]
  split
  · rename_i h; simp [h]
  · rename_i h
    rw [show n + (i - n) = i by omega]
    simp; omega

theorem join16_bytes (e : Endian) (v : Half) (b0 b1 : Byte) (h : bytes16 e v = [b0, b1]) : join16 e b0 b1 = v := by
  cases e <;> simp only [bytes16, List.cons.injEq, and_true] at h <;> obtain ⟨rfl, rfl⟩ := h <;>
    exact append_halves 8 8 v

theorem Memory.read16_write16 (m : Memory) (e : Endian) (a : Quad) (v : Half) : (m.write16 e a v).read16 e a = v := by
  cases e <;> simp only [Memory.write16, bytes16, Memory.writeBytes, Memory.read16, Memory.read8_write8] <;>
    simp <;> exact join16_bytes _ v _ _ rfl

theorem join32_halves (e : Endian) (v : Word) :
    (match e with
      | .big => join32 e (v.extractLsb' 16 16) (v.extractLsb' 0 16)
      | .little => join32 e (v.extractLsb' 0 16) (v.extractLsb' 16 16)) = v := by
  cases e <;> exact append_halves 16 16 v

theorem join64_halves (e : Endian) (v : Quad) :
    (match e with
      | .big => join64 e (v.extractLsb' 32 32) (v.extractLsb' 0 32)
      | .little => join64 e (v.extractLsb' 0 32) (v.extractLsb' 32 32)) = v := by
  cases e <;> exact append_halves 32 32 v

theorem Memory.writeBytes_append (m : Memory) (bs cs : List Byte) (a : Quad) :
    m.writeBytes a (bs ++ cs) = (m.writeBytes a bs).writeBytes (a + BitVec.ofNat 64 bs.length) cs := by
  induction bs generalizing m a with
  | nil => simp [Memory.writeBytes]
  | cons b bs ih =>
    rw [List.cons_append, Memory.writeBytes, ih, Memory.writeBytes, List.length_cons, BitVec.add_assoc,
      show (1 : Quad) = BitVec.ofNat 64 1 from rfl, ← BitVec.ofNat_add, Nat.add_comm]

theorem Memory.read16_of_read8 (m m' : Memory) (e : Endian) (a : Quad) (h0 : m.read8 a = m'.read8 a)
    (h1 : m.read8 (a + 1) = m'.read8 (a + 1)) : m.read16 e a = m'.read16 e a := by
  rw [Memory.read16, Memory.read16, h0, h1]

/-- Two addresses of one range are equal only at equal positions. -/
theorem range_ne (a : Quad) (i j : Nat) (hi : i < 2 ^ 64) (hj : j < 2 ^ 64) (h : i ≠ j) :
    a + BitVec.ofNat 64 i ≠ a + BitVec.ofNat 64 j := by
  intro he
  have := congrArg BitVec.toNat (add_left_cancel he)
  simp only [BitVec.toNat_ofNat] at this
  omega

theorem not_inRange_of_offset (a : Quad) (i k n : Nat) (hi : i < 2 ^ 64) (hk : k + n ≤ 2 ^ 64) (h : i < k ∨ k + n ≤ i) :
    ¬ inRange (a + BitVec.ofNat 64 k) n (a + BitVec.ofNat 64 i) := by
  rintro ⟨j, hj, he⟩
  rw [BitVec.add_assoc, ← BitVec.ofNat_add] at he
  exact range_ne a i (k + j) hi (by omega) (by omega) he

theorem Memory.write32_eq (m : Memory) (e : Endian) (a : Quad) (v : Word) :
    m.write32 e a v = match e with
      | .big => (m.write16 .big a (v.extractLsb' 16 16)).write16 .big (a + 2) (v.extractLsb' 0 16)
      | .little => (m.write16 .little a (v.extractLsb' 0 16)).write16 .little (a + 2) (v.extractLsb' 16 16) := by
  cases e <;> simp only [Memory.write32, bytes32, Memory.writeBytes_append, bytes16_length, Memory.write16] <;> rfl

theorem Memory.write64_eq (m : Memory) (e : Endian) (a : Quad) (v : Quad) :
    m.write64 e a v = match e with
      | .big => (m.write32 .big a (v.extractLsb' 32 32)).write32 .big (a + 4) (v.extractLsb' 0 32)
      | .little => (m.write32 .little a (v.extractLsb' 0 32)).write32 .little (a + 4) (v.extractLsb' 32 32) := by
  cases e <;> simp only [Memory.write64, bytes64, Memory.writeBytes_append, bytes32_length, Memory.write32] <;> rfl

theorem Memory.read16_write16_ne (m : Memory) (e e' : Endian) (a : Quad) (v : Half) (i k : Nat) (hi : i + 2 ≤ 2 ^ 63)
    (hk : k + 2 ≤ 2 ^ 63) (h : i + 2 ≤ k ∨ k + 2 ≤ i) :
    (m.write16 e (a + BitVec.ofNat 64 k) v).read16 e' (a + BitVec.ofNat 64 i) = m.read16 e' (a + BitVec.ofNat 64 i) := by
  have h1 : (a + BitVec.ofNat 64 i) + 1 = a + BitVec.ofNat 64 (i + 1) := by
    rw [BitVec.add_assoc, show (1 : Quad) = BitVec.ofNat 64 1 from rfl, ← BitVec.ofNat_add]
  apply Memory.read16_of_read8
  · exact Memory.read8_write16 _ _ _ _ _ (not_inRange_of_offset a i k 2 (by omega) (by omega) (by omega))
  · rw [h1]
    exact Memory.read8_write16 _ _ _ _ _ (not_inRange_of_offset a (i + 1) k 2 (by omega) (by omega) (by omega))

theorem Memory.read32_write32 (m : Memory) (e : Endian) (a : Quad) (v : Word) : (m.write32 e a v).read32 e a = v := by
  have h (e : Endian) (m : Memory) (x y : Half) :
      ((m.write16 e a x).write16 e (a + 2) y).read32 e a = join32 e x y := by
    rw [Memory.read32, Memory.read16_write16]
    have h0 : ((m.write16 e a x).write16 e (a + 2) y).read16 e a = (m.write16 e a x).read16 e a := by
      simpa using Memory.read16_write16_ne (m.write16 e a x) e e a y 0 2 (by omega) (by omega) (by omega)
    rw [h0, Memory.read16_write16]
  rw [Memory.write32_eq]
  cases e <;> simp only [h]
  · exact join32_halves .big v
  · exact join32_halves .little v

theorem Memory.read32_write32_ne (m : Memory) (e : Endian) (a : Quad) (v : Word) :
    (m.write32 e (a + 4) v).read32 e a = m.read32 e a := by
  have r (m : Memory) (x : Half) (k : Nat) (hk : 4 ≤ k) (hk' : k < 10) (i : Nat) (hi : i ≤ 2) :
      (m.write16 e (a + BitVec.ofNat 64 k) x).read16 e (a + BitVec.ofNat 64 i) = m.read16 e (a + BitVec.ofNat 64 i) :=
    Memory.read16_write16_ne m e e a x i k (by omega) (by omega) (by omega)
  have h6 : a + 4 + 2 = a + 6 := by rw [BitVec.add_assoc]; rfl
  have h (m : Memory) (x y : Half) : ((m.write16 e (a + 4) x).write16 e (a + 4 + 2) y).read32 e a = m.read32 e a := by
    have a0 : (m.write16 e (a + 4) x).read16 e a = m.read16 e a := by
      simpa using r m x 4 (by omega) (by omega) 0 (by omega)
    have a2 : (m.write16 e (a + 4) x).read16 e (a + 2) = m.read16 e (a + 2) := r m x 4 (by omega) (by omega) 2 (by omega)
    have b0 (m : Memory) : (m.write16 e (a + 6) y).read16 e a = m.read16 e a := by
      simpa using r m y 6 (by omega) (by omega) 0 (by omega)
    have b2 (m : Memory) : (m.write16 e (a + 6) y).read16 e (a + 2) = m.read16 e (a + 2) :=
      r m y 6 (by omega) (by omega) 2 (by omega)
    rw [Memory.read32, Memory.read32, h6, b0, b2, a0, a2]
  rw [Memory.write32_eq]
  cases e <;> exact h _ _ _

theorem Memory.read64_write64 (m : Memory) (e : Endian) (a : Quad) (v : Quad) : (m.write64 e a v).read64 e a = v := by
  rw [Memory.write64_eq]
  cases e
  · simp only [Memory.read64, Memory.read32_write32_ne, Memory.read32_write32]
    exact join64_halves .big v
  · simp only [Memory.read64, Memory.read32_write32_ne, Memory.read32_write32]
    exact join64_halves .little v

/-! ### The canonical form -/

/-- The canonical form above an address. -/
def Memory.wfFrom (lo : Nat) : Memory → Prop
  | [] => True
  | (a, b) :: m => lo ≤ a ∧ a < 2 ^ 64 ∧ b ≠ 0 ∧ Memory.wfFrom (a + 1) m

theorem Memory.wfFrom_mono (m : Memory) {lo lo' : Nat} (h : lo' ≤ lo) (hm : m.wfFrom lo) : m.wfFrom lo' := by
  cases m with
  | nil => trivial
  | cons c m => obtain ⟨a, b⟩ := c; exact ⟨Nat.le_trans h hm.1, hm.2⟩

theorem Memory.wfFrom_lt (m : Memory) (lo : Nat) (c : Host.Cell) (hm : m.wfFrom lo) (hc : c ∈ m) : c.1 < 2 ^ 64 := by
  induction m generalizing lo with
  | nil => simp at hc
  | cons d m ih =>
    obtain ⟨a, b⟩ := d
    simp only [Memory.wfFrom] at hm
    rcases List.mem_cons.mp hc with rfl | hc
    · exact hm.2.1
    · exact ih _ hm.2.2.2 hc

theorem Memory.wf_iff (m : Memory) : m.wf = true ↔ m.wfFrom 0 := by
  induction m with
  | nil => simp [Memory.wf, Memory.wfFrom]
  | cons c m ih =>
    obtain ⟨a, b⟩ := c
    cases m with
    | nil => simp [Memory.wf, Memory.wfFrom]
    | cons d m =>
      obtain ⟨a', b'⟩ := d
      simp only [Memory.wf, Bool.and_eq_true, decide_eq_true_eq, bne_iff_ne, ne_eq, ih]
      simp only [Memory.wfFrom]
      constructor
      · rintro ⟨⟨h1, h2⟩, h3, h4, h5, h6⟩
        exact ⟨by omega, by omega, h2, by omega, h4, h5, h6⟩
      · rintro ⟨h1, h2, h3, h4, h5, h6, h7⟩
        exact ⟨⟨by omega, h3⟩, by omega, h5, h6, h7⟩

theorem Memory.wfFrom_erase (m : Memory) (lo x : Nat) (h : m.wfFrom lo) : (m.erase x).wfFrom lo := by
  induction m generalizing lo with
  | nil => exact h
  | cons c m ih =>
    obtain ⟨a, b⟩ := c
    simp only [Memory.wfFrom] at h
    obtain ⟨h1, h2, h3, h4⟩ := h
    simp only [Memory.erase, List.filter_cons]
    split
    · exact ⟨h1, h2, h3, ih _ h4⟩
    · exact Memory.wfFrom_mono _ (by omega) (ih _ h4)

theorem Memory.wfFrom_insert (m : Memory) (lo x : Nat) (b : Byte) (h : m.wfFrom lo) (hx : lo ≤ x) (hx' : x < 2 ^ 64)
    (hb : b ≠ 0) (hn : ∀ c ∈ m, c.1 ≠ x) : (Memory.insert m x b).wfFrom lo := by
  induction m generalizing lo with
  | nil => exact ⟨hx, hx', hb, trivial⟩
  | cons c m ih =>
    obtain ⟨a, d⟩ := c
    have hax : a ≠ x := hn (a, d) (List.mem_cons_self ..)
    simp only [Memory.wfFrom] at h
    obtain ⟨h1, h2, h3, h4⟩ := h
    unfold Memory.insert
    split
    · rename_i hlt
      exact ⟨hx, hx', hb, by omega, h2, h3, h4⟩
    · exact ⟨h1, h2, h3, ih _ h4 (by omega) fun c hc => hn c (List.mem_cons_of_mem _ hc)⟩

/-- A byte write keeps the canonical form. -/
theorem Memory.wf_set (m : Memory) (x : Nat) (b : Byte) (hx : x < 2 ^ 64) (h : m.wf = true) : (m.set x b).wf = true := by
  rw [Memory.wf_iff] at *
  unfold Memory.set
  split
  · exact Memory.wfFrom_erase _ _ _ h
  · rename_i hb
    refine Memory.wfFrom_insert _ _ _ _ (Memory.wfFrom_erase _ _ _ h) (Nat.zero_le _) hx hb fun c hc => ?_
    simp [Memory.erase] at hc
    exact hc.2

theorem Memory.wf_write8 (m : Memory) (a : Quad) (b : Byte) (h : m.wf = true) : (m.write8 a b).wf = true :=
  Memory.wf_set _ _ _ a.isLt h

theorem Memory.wf_writeBytes (m : Memory) (bs : List Byte) (a : Quad) (h : m.wf = true) : (m.writeBytes a bs).wf = true := by
  induction bs generalizing m a with
  | nil => exact h
  | cons b bs ih => exact ih _ _ (Memory.wf_write8 _ _ _ h)

theorem Memory.wf_write16 (m : Memory) (e : Endian) (a : Quad) (v : Half) (h : m.wf = true) :
    (m.write16 e a v).wf = true := Memory.wf_writeBytes _ _ _ h

theorem Memory.wf_write32 (m : Memory) (e : Endian) (a : Quad) (v : Word) (h : m.wf = true) :
    (m.write32 e a v).wf = true := Memory.wf_writeBytes _ _ _ h

theorem Memory.wf_write64 (m : Memory) (e : Endian) (a : Quad) (v : Quad) (h : m.wf = true) :
    (m.write64 e a v).wf = true := Memory.wf_writeBytes _ _ _ h

end Sys2Proof.Machine
end

