-- ==== Sys2Proof/Laws/State.lean ====
section
/-! SUPPORT. One lemma per field and update of the state, so that no proof unfolds a record update. -/

namespace Sys2Proof.Machine

/-! `setG` -/

@[simp] theorem State.setG_sr (s : State) (i : MReg) (v : Quad) : (s.setG i v).sr = s.sr := rfl
@[simp] theorem State.setG_cr (s : State) (i : MReg) (v : Quad) : (s.setG i v).cr = s.cr := rfl
@[simp] theorem State.setG_tr (s : State) (i : MReg) (v : Quad) : (s.setG i v).tr = s.tr := rfl
@[simp] theorem State.setG_fr (s : State) (i : MReg) (v : Quad) : (s.setG i v).fr = s.fr := rfl
@[simp] theorem State.setG_fpscr (s : State) (i : MReg) (v : Quad) : (s.setG i v).fpscr = s.fpscr := rfl
@[simp] theorem State.setG_vbr (s : State) (i : MReg) (v : Quad) : (s.setG i v).vbr = s.vbr := rfl
@[simp] theorem State.setG_gbr (s : State) (i : MReg) (v : Quad) : (s.setG i v).gbr = s.gbr := rfl
@[simp] theorem State.setG_mach (s : State) (i : MReg) (v : Quad) : (s.setG i v).mach = s.mach := rfl
@[simp] theorem State.setG_macl (s : State) (i : MReg) (v : Quad) : (s.setG i v).macl = s.macl := rfl
@[simp] theorem State.setG_pr (s : State) (i : MReg) (v : Quad) : (s.setG i v).pr = s.pr := rfl
@[simp] theorem State.setG_fpul (s : State) (i : MReg) (v : Quad) : (s.setG i v).fpul = s.fpul := rfl
@[simp] theorem State.setG_pc (s : State) (i : MReg) (v : Quad) : (s.setG i v).pc = s.pc := rfl
@[simp] theorem State.setG_ism (s : State) (i : MReg) (v : Quad) : (s.setG i v).ism = s.ism := rfl
@[simp] theorem State.setG_endian (s : State) (i : MReg) (v : Quad) : (s.setG i v).endian = s.endian := rfl
@[simp] theorem State.setG_pending (s : State) (i : MReg) (v : Quad) : (s.setG i v).pending = s.pending := rfl
@[simp] theorem State.setG_dstate (s : State) (i : MReg) (v : Quad) : (s.setG i v).dstate = s.dstate := rfl
@[simp] theorem State.setG_event (s : State) (i : MReg) (v : Quad) : (s.setG i v).event = s.event := rfl
@[simp] theorem State.setG_refused (s : State) (i : MReg) (v : Quad) : (s.setG i v).refused = s.refused := rfl
@[simp] theorem State.setG_mem (s : State) (i : MReg) (v : Quad) : (s.setG i v).mem = s.mem := rfl
@[simp] theorem State.setG_params (s : State) (i : MReg) (v : Quad) : (s.setG i v).params = s.params := rfl
@[simp] theorem State.setG_written (s : State) (i : MReg) (v : Quad) : (s.setG i v).written = s.written := rfl
@[simp] theorem State.setG_draws (s : State) (i : MReg) (v : Quad) : (s.setG i v).draws = s.draws := rfl

/-! `setR` -/

@[simp] theorem State.setR_sr (s : State) (n : CReg) (v : Word) : (s.setR n v).sr = s.sr := rfl
@[simp] theorem State.setR_cr (s : State) (n : CReg) (v : Word) : (s.setR n v).cr = s.cr := rfl
@[simp] theorem State.setR_tr (s : State) (n : CReg) (v : Word) : (s.setR n v).tr = s.tr := rfl
@[simp] theorem State.setR_fr (s : State) (n : CReg) (v : Word) : (s.setR n v).fr = s.fr := rfl
@[simp] theorem State.setR_fpscr (s : State) (n : CReg) (v : Word) : (s.setR n v).fpscr = s.fpscr := rfl
@[simp] theorem State.setR_vbr (s : State) (n : CReg) (v : Word) : (s.setR n v).vbr = s.vbr := rfl
@[simp] theorem State.setR_gbr (s : State) (n : CReg) (v : Word) : (s.setR n v).gbr = s.gbr := rfl
@[simp] theorem State.setR_mach (s : State) (n : CReg) (v : Word) : (s.setR n v).mach = s.mach := rfl
@[simp] theorem State.setR_macl (s : State) (n : CReg) (v : Word) : (s.setR n v).macl = s.macl := rfl
@[simp] theorem State.setR_pr (s : State) (n : CReg) (v : Word) : (s.setR n v).pr = s.pr := rfl
@[simp] theorem State.setR_fpul (s : State) (n : CReg) (v : Word) : (s.setR n v).fpul = s.fpul := rfl
@[simp] theorem State.setR_pc (s : State) (n : CReg) (v : Word) : (s.setR n v).pc = s.pc := rfl
@[simp] theorem State.setR_ism (s : State) (n : CReg) (v : Word) : (s.setR n v).ism = s.ism := rfl
@[simp] theorem State.setR_endian (s : State) (n : CReg) (v : Word) : (s.setR n v).endian = s.endian := rfl
@[simp] theorem State.setR_pending (s : State) (n : CReg) (v : Word) : (s.setR n v).pending = s.pending := rfl
@[simp] theorem State.setR_dstate (s : State) (n : CReg) (v : Word) : (s.setR n v).dstate = s.dstate := rfl
@[simp] theorem State.setR_event (s : State) (n : CReg) (v : Word) : (s.setR n v).event = s.event := rfl
@[simp] theorem State.setR_refused (s : State) (n : CReg) (v : Word) : (s.setR n v).refused = s.refused := rfl
@[simp] theorem State.setR_mem (s : State) (n : CReg) (v : Word) : (s.setR n v).mem = s.mem := rfl
@[simp] theorem State.setR_params (s : State) (n : CReg) (v : Word) : (s.setR n v).params = s.params := rfl
@[simp] theorem State.setR_written (s : State) (n : CReg) (v : Word) : (s.setR n v).written = s.written := rfl
@[simp] theorem State.setR_draws (s : State) (n : CReg) (v : Word) : (s.setR n v).draws = s.draws := rfl

/-! `setT` -/

@[simp] theorem State.setT_gr (s : State) (b : Bool) : (s.setT b).gr = s.gr := rfl
@[simp] theorem State.setT_cr (s : State) (b : Bool) : (s.setT b).cr = s.cr := rfl
@[simp] theorem State.setT_tr (s : State) (b : Bool) : (s.setT b).tr = s.tr := rfl
@[simp] theorem State.setT_fr (s : State) (b : Bool) : (s.setT b).fr = s.fr := rfl
@[simp] theorem State.setT_fpscr (s : State) (b : Bool) : (s.setT b).fpscr = s.fpscr := rfl
@[simp] theorem State.setT_vbr (s : State) (b : Bool) : (s.setT b).vbr = s.vbr := rfl
@[simp] theorem State.setT_gbr (s : State) (b : Bool) : (s.setT b).gbr = s.gbr := rfl
@[simp] theorem State.setT_mach (s : State) (b : Bool) : (s.setT b).mach = s.mach := rfl
@[simp] theorem State.setT_macl (s : State) (b : Bool) : (s.setT b).macl = s.macl := rfl
@[simp] theorem State.setT_pr (s : State) (b : Bool) : (s.setT b).pr = s.pr := rfl
@[simp] theorem State.setT_fpul (s : State) (b : Bool) : (s.setT b).fpul = s.fpul := rfl
@[simp] theorem State.setT_pc (s : State) (b : Bool) : (s.setT b).pc = s.pc := rfl
@[simp] theorem State.setT_ism (s : State) (b : Bool) : (s.setT b).ism = s.ism := rfl
@[simp] theorem State.setT_endian (s : State) (b : Bool) : (s.setT b).endian = s.endian := rfl
@[simp] theorem State.setT_pending (s : State) (b : Bool) : (s.setT b).pending = s.pending := rfl
@[simp] theorem State.setT_dstate (s : State) (b : Bool) : (s.setT b).dstate = s.dstate := rfl
@[simp] theorem State.setT_event (s : State) (b : Bool) : (s.setT b).event = s.event := rfl
@[simp] theorem State.setT_refused (s : State) (b : Bool) : (s.setT b).refused = s.refused := rfl
@[simp] theorem State.setT_mem (s : State) (b : Bool) : (s.setT b).mem = s.mem := rfl
@[simp] theorem State.setT_params (s : State) (b : Bool) : (s.setT b).params = s.params := rfl
@[simp] theorem State.setT_written (s : State) (b : Bool) : (s.setT b).written = s.written := rfl
@[simp] theorem State.setT_draws (s : State) (b : Bool) : (s.setT b).draws = s.draws := rfl

/-! `setS` -/

@[simp] theorem State.setS_gr (s : State) (b : Bool) : (s.setS b).gr = s.gr := rfl
@[simp] theorem State.setS_cr (s : State) (b : Bool) : (s.setS b).cr = s.cr := rfl
@[simp] theorem State.setS_tr (s : State) (b : Bool) : (s.setS b).tr = s.tr := rfl
@[simp] theorem State.setS_fr (s : State) (b : Bool) : (s.setS b).fr = s.fr := rfl
@[simp] theorem State.setS_fpscr (s : State) (b : Bool) : (s.setS b).fpscr = s.fpscr := rfl
@[simp] theorem State.setS_vbr (s : State) (b : Bool) : (s.setS b).vbr = s.vbr := rfl
@[simp] theorem State.setS_gbr (s : State) (b : Bool) : (s.setS b).gbr = s.gbr := rfl
@[simp] theorem State.setS_mach (s : State) (b : Bool) : (s.setS b).mach = s.mach := rfl
@[simp] theorem State.setS_macl (s : State) (b : Bool) : (s.setS b).macl = s.macl := rfl
@[simp] theorem State.setS_pr (s : State) (b : Bool) : (s.setS b).pr = s.pr := rfl
@[simp] theorem State.setS_fpul (s : State) (b : Bool) : (s.setS b).fpul = s.fpul := rfl
@[simp] theorem State.setS_pc (s : State) (b : Bool) : (s.setS b).pc = s.pc := rfl
@[simp] theorem State.setS_ism (s : State) (b : Bool) : (s.setS b).ism = s.ism := rfl
@[simp] theorem State.setS_endian (s : State) (b : Bool) : (s.setS b).endian = s.endian := rfl
@[simp] theorem State.setS_pending (s : State) (b : Bool) : (s.setS b).pending = s.pending := rfl
@[simp] theorem State.setS_dstate (s : State) (b : Bool) : (s.setS b).dstate = s.dstate := rfl
@[simp] theorem State.setS_event (s : State) (b : Bool) : (s.setS b).event = s.event := rfl
@[simp] theorem State.setS_refused (s : State) (b : Bool) : (s.setS b).refused = s.refused := rfl
@[simp] theorem State.setS_mem (s : State) (b : Bool) : (s.setS b).mem = s.mem := rfl
@[simp] theorem State.setS_params (s : State) (b : Bool) : (s.setS b).params = s.params := rfl
@[simp] theorem State.setS_written (s : State) (b : Bool) : (s.setS b).written = s.written := rfl
@[simp] theorem State.setS_draws (s : State) (b : Bool) : (s.setS b).draws = s.draws := rfl

/-! `setQ` -/

@[simp] theorem State.setQ_gr (s : State) (b : Bool) : (s.setQ b).gr = s.gr := rfl
@[simp] theorem State.setQ_cr (s : State) (b : Bool) : (s.setQ b).cr = s.cr := rfl
@[simp] theorem State.setQ_tr (s : State) (b : Bool) : (s.setQ b).tr = s.tr := rfl
@[simp] theorem State.setQ_fr (s : State) (b : Bool) : (s.setQ b).fr = s.fr := rfl
@[simp] theorem State.setQ_fpscr (s : State) (b : Bool) : (s.setQ b).fpscr = s.fpscr := rfl
@[simp] theorem State.setQ_vbr (s : State) (b : Bool) : (s.setQ b).vbr = s.vbr := rfl
@[simp] theorem State.setQ_gbr (s : State) (b : Bool) : (s.setQ b).gbr = s.gbr := rfl
@[simp] theorem State.setQ_mach (s : State) (b : Bool) : (s.setQ b).mach = s.mach := rfl
@[simp] theorem State.setQ_macl (s : State) (b : Bool) : (s.setQ b).macl = s.macl := rfl
@[simp] theorem State.setQ_pr (s : State) (b : Bool) : (s.setQ b).pr = s.pr := rfl
@[simp] theorem State.setQ_fpul (s : State) (b : Bool) : (s.setQ b).fpul = s.fpul := rfl
@[simp] theorem State.setQ_pc (s : State) (b : Bool) : (s.setQ b).pc = s.pc := rfl
@[simp] theorem State.setQ_ism (s : State) (b : Bool) : (s.setQ b).ism = s.ism := rfl
@[simp] theorem State.setQ_endian (s : State) (b : Bool) : (s.setQ b).endian = s.endian := rfl
@[simp] theorem State.setQ_pending (s : State) (b : Bool) : (s.setQ b).pending = s.pending := rfl
@[simp] theorem State.setQ_dstate (s : State) (b : Bool) : (s.setQ b).dstate = s.dstate := rfl
@[simp] theorem State.setQ_event (s : State) (b : Bool) : (s.setQ b).event = s.event := rfl
@[simp] theorem State.setQ_refused (s : State) (b : Bool) : (s.setQ b).refused = s.refused := rfl
@[simp] theorem State.setQ_mem (s : State) (b : Bool) : (s.setQ b).mem = s.mem := rfl
@[simp] theorem State.setQ_params (s : State) (b : Bool) : (s.setQ b).params = s.params := rfl
@[simp] theorem State.setQ_written (s : State) (b : Bool) : (s.setQ b).written = s.written := rfl
@[simp] theorem State.setQ_draws (s : State) (b : Bool) : (s.setQ b).draws = s.draws := rfl

/-! `setM` -/

@[simp] theorem State.setM_gr (s : State) (b : Bool) : (s.setM b).gr = s.gr := rfl
@[simp] theorem State.setM_cr (s : State) (b : Bool) : (s.setM b).cr = s.cr := rfl
@[simp] theorem State.setM_tr (s : State) (b : Bool) : (s.setM b).tr = s.tr := rfl
@[simp] theorem State.setM_fr (s : State) (b : Bool) : (s.setM b).fr = s.fr := rfl
@[simp] theorem State.setM_fpscr (s : State) (b : Bool) : (s.setM b).fpscr = s.fpscr := rfl
@[simp] theorem State.setM_vbr (s : State) (b : Bool) : (s.setM b).vbr = s.vbr := rfl
@[simp] theorem State.setM_gbr (s : State) (b : Bool) : (s.setM b).gbr = s.gbr := rfl
@[simp] theorem State.setM_mach (s : State) (b : Bool) : (s.setM b).mach = s.mach := rfl
@[simp] theorem State.setM_macl (s : State) (b : Bool) : (s.setM b).macl = s.macl := rfl
@[simp] theorem State.setM_pr (s : State) (b : Bool) : (s.setM b).pr = s.pr := rfl
@[simp] theorem State.setM_fpul (s : State) (b : Bool) : (s.setM b).fpul = s.fpul := rfl
@[simp] theorem State.setM_pc (s : State) (b : Bool) : (s.setM b).pc = s.pc := rfl
@[simp] theorem State.setM_ism (s : State) (b : Bool) : (s.setM b).ism = s.ism := rfl
@[simp] theorem State.setM_endian (s : State) (b : Bool) : (s.setM b).endian = s.endian := rfl
@[simp] theorem State.setM_pending (s : State) (b : Bool) : (s.setM b).pending = s.pending := rfl
@[simp] theorem State.setM_dstate (s : State) (b : Bool) : (s.setM b).dstate = s.dstate := rfl
@[simp] theorem State.setM_event (s : State) (b : Bool) : (s.setM b).event = s.event := rfl
@[simp] theorem State.setM_refused (s : State) (b : Bool) : (s.setM b).refused = s.refused := rfl
@[simp] theorem State.setM_mem (s : State) (b : Bool) : (s.setM b).mem = s.mem := rfl
@[simp] theorem State.setM_params (s : State) (b : Bool) : (s.setM b).params = s.params := rfl
@[simp] theorem State.setM_written (s : State) (b : Bool) : (s.setM b).written = s.written := rfl
@[simp] theorem State.setM_draws (s : State) (b : Bool) : (s.setM b).draws = s.draws := rfl

/-! `setTr` -/

@[simp] theorem State.setTr_gr (s : State) (a : TReg) (v : Quad) : (s.setTr a v).gr = s.gr := rfl
@[simp] theorem State.setTr_sr (s : State) (a : TReg) (v : Quad) : (s.setTr a v).sr = s.sr := rfl
@[simp] theorem State.setTr_cr (s : State) (a : TReg) (v : Quad) : (s.setTr a v).cr = s.cr := rfl
@[simp] theorem State.setTr_fr (s : State) (a : TReg) (v : Quad) : (s.setTr a v).fr = s.fr := rfl
@[simp] theorem State.setTr_fpscr (s : State) (a : TReg) (v : Quad) : (s.setTr a v).fpscr = s.fpscr := rfl
@[simp] theorem State.setTr_vbr (s : State) (a : TReg) (v : Quad) : (s.setTr a v).vbr = s.vbr := rfl
@[simp] theorem State.setTr_gbr (s : State) (a : TReg) (v : Quad) : (s.setTr a v).gbr = s.gbr := rfl
@[simp] theorem State.setTr_mach (s : State) (a : TReg) (v : Quad) : (s.setTr a v).mach = s.mach := rfl
@[simp] theorem State.setTr_macl (s : State) (a : TReg) (v : Quad) : (s.setTr a v).macl = s.macl := rfl
@[simp] theorem State.setTr_pr (s : State) (a : TReg) (v : Quad) : (s.setTr a v).pr = s.pr := rfl
@[simp] theorem State.setTr_fpul (s : State) (a : TReg) (v : Quad) : (s.setTr a v).fpul = s.fpul := rfl
@[simp] theorem State.setTr_pc (s : State) (a : TReg) (v : Quad) : (s.setTr a v).pc = s.pc := rfl
@[simp] theorem State.setTr_ism (s : State) (a : TReg) (v : Quad) : (s.setTr a v).ism = s.ism := rfl
@[simp] theorem State.setTr_endian (s : State) (a : TReg) (v : Quad) : (s.setTr a v).endian = s.endian := rfl
@[simp] theorem State.setTr_pending (s : State) (a : TReg) (v : Quad) : (s.setTr a v).pending = s.pending := rfl
@[simp] theorem State.setTr_dstate (s : State) (a : TReg) (v : Quad) : (s.setTr a v).dstate = s.dstate := rfl
@[simp] theorem State.setTr_event (s : State) (a : TReg) (v : Quad) : (s.setTr a v).event = s.event := rfl
@[simp] theorem State.setTr_refused (s : State) (a : TReg) (v : Quad) : (s.setTr a v).refused = s.refused := rfl
@[simp] theorem State.setTr_mem (s : State) (a : TReg) (v : Quad) : (s.setTr a v).mem = s.mem := rfl
@[simp] theorem State.setTr_params (s : State) (a : TReg) (v : Quad) : (s.setTr a v).params = s.params := rfl
@[simp] theorem State.setTr_written (s : State) (a : TReg) (v : Quad) : (s.setTr a v).written = s.written := rfl
@[simp] theorem State.setTr_draws (s : State) (a : TReg) (v : Quad) : (s.setTr a v).draws = s.draws := rfl

/-! `setF` -/

@[simp] theorem State.setF_gr (s : State) (i : MReg) (v : Word) : (s.setF i v).gr = s.gr := rfl
@[simp] theorem State.setF_sr (s : State) (i : MReg) (v : Word) : (s.setF i v).sr = s.sr := rfl
@[simp] theorem State.setF_cr (s : State) (i : MReg) (v : Word) : (s.setF i v).cr = s.cr := rfl
@[simp] theorem State.setF_tr (s : State) (i : MReg) (v : Word) : (s.setF i v).tr = s.tr := rfl
@[simp] theorem State.setF_fpscr (s : State) (i : MReg) (v : Word) : (s.setF i v).fpscr = s.fpscr := rfl
@[simp] theorem State.setF_vbr (s : State) (i : MReg) (v : Word) : (s.setF i v).vbr = s.vbr := rfl
@[simp] theorem State.setF_gbr (s : State) (i : MReg) (v : Word) : (s.setF i v).gbr = s.gbr := rfl
@[simp] theorem State.setF_mach (s : State) (i : MReg) (v : Word) : (s.setF i v).mach = s.mach := rfl
@[simp] theorem State.setF_macl (s : State) (i : MReg) (v : Word) : (s.setF i v).macl = s.macl := rfl
@[simp] theorem State.setF_pr (s : State) (i : MReg) (v : Word) : (s.setF i v).pr = s.pr := rfl
@[simp] theorem State.setF_fpul (s : State) (i : MReg) (v : Word) : (s.setF i v).fpul = s.fpul := rfl
@[simp] theorem State.setF_pc (s : State) (i : MReg) (v : Word) : (s.setF i v).pc = s.pc := rfl
@[simp] theorem State.setF_ism (s : State) (i : MReg) (v : Word) : (s.setF i v).ism = s.ism := rfl
@[simp] theorem State.setF_endian (s : State) (i : MReg) (v : Word) : (s.setF i v).endian = s.endian := rfl
@[simp] theorem State.setF_pending (s : State) (i : MReg) (v : Word) : (s.setF i v).pending = s.pending := rfl
@[simp] theorem State.setF_dstate (s : State) (i : MReg) (v : Word) : (s.setF i v).dstate = s.dstate := rfl
@[simp] theorem State.setF_event (s : State) (i : MReg) (v : Word) : (s.setF i v).event = s.event := rfl
@[simp] theorem State.setF_refused (s : State) (i : MReg) (v : Word) : (s.setF i v).refused = s.refused := rfl
@[simp] theorem State.setF_mem (s : State) (i : MReg) (v : Word) : (s.setF i v).mem = s.mem := rfl
@[simp] theorem State.setF_params (s : State) (i : MReg) (v : Word) : (s.setF i v).params = s.params := rfl
@[simp] theorem State.setF_written (s : State) (i : MReg) (v : Word) : (s.setF i v).written = s.written := rfl
@[simp] theorem State.setF_draws (s : State) (i : MReg) (v : Word) : (s.setF i v).draws = s.draws := rfl

/-! `setD` -/

@[simp] theorem State.setD_gr (s : State) (i : MReg) (v : Quad) : (s.setD i v).gr = s.gr := rfl
@[simp] theorem State.setD_sr (s : State) (i : MReg) (v : Quad) : (s.setD i v).sr = s.sr := rfl
@[simp] theorem State.setD_cr (s : State) (i : MReg) (v : Quad) : (s.setD i v).cr = s.cr := rfl
@[simp] theorem State.setD_tr (s : State) (i : MReg) (v : Quad) : (s.setD i v).tr = s.tr := rfl
@[simp] theorem State.setD_fpscr (s : State) (i : MReg) (v : Quad) : (s.setD i v).fpscr = s.fpscr := rfl
@[simp] theorem State.setD_vbr (s : State) (i : MReg) (v : Quad) : (s.setD i v).vbr = s.vbr := rfl
@[simp] theorem State.setD_gbr (s : State) (i : MReg) (v : Quad) : (s.setD i v).gbr = s.gbr := rfl
@[simp] theorem State.setD_mach (s : State) (i : MReg) (v : Quad) : (s.setD i v).mach = s.mach := rfl
@[simp] theorem State.setD_macl (s : State) (i : MReg) (v : Quad) : (s.setD i v).macl = s.macl := rfl
@[simp] theorem State.setD_pr (s : State) (i : MReg) (v : Quad) : (s.setD i v).pr = s.pr := rfl
@[simp] theorem State.setD_fpul (s : State) (i : MReg) (v : Quad) : (s.setD i v).fpul = s.fpul := rfl
@[simp] theorem State.setD_pc (s : State) (i : MReg) (v : Quad) : (s.setD i v).pc = s.pc := rfl
@[simp] theorem State.setD_ism (s : State) (i : MReg) (v : Quad) : (s.setD i v).ism = s.ism := rfl
@[simp] theorem State.setD_endian (s : State) (i : MReg) (v : Quad) : (s.setD i v).endian = s.endian := rfl
@[simp] theorem State.setD_pending (s : State) (i : MReg) (v : Quad) : (s.setD i v).pending = s.pending := rfl
@[simp] theorem State.setD_dstate (s : State) (i : MReg) (v : Quad) : (s.setD i v).dstate = s.dstate := rfl
@[simp] theorem State.setD_event (s : State) (i : MReg) (v : Quad) : (s.setD i v).event = s.event := rfl
@[simp] theorem State.setD_refused (s : State) (i : MReg) (v : Quad) : (s.setD i v).refused = s.refused := rfl
@[simp] theorem State.setD_mem (s : State) (i : MReg) (v : Quad) : (s.setD i v).mem = s.mem := rfl
@[simp] theorem State.setD_params (s : State) (i : MReg) (v : Quad) : (s.setD i v).params = s.params := rfl
@[simp] theorem State.setD_written (s : State) (i : MReg) (v : Quad) : (s.setD i v).written = s.written := rfl
@[simp] theorem State.setD_draws (s : State) (i : MReg) (v : Quad) : (s.setD i v).draws = s.draws := rfl

/-! `setFpscr` -/

@[simp] theorem State.setFpscr_gr (s : State) (v : Word) : (s.setFpscr v).gr = s.gr := rfl
@[simp] theorem State.setFpscr_sr (s : State) (v : Word) : (s.setFpscr v).sr = s.sr := rfl
@[simp] theorem State.setFpscr_cr (s : State) (v : Word) : (s.setFpscr v).cr = s.cr := rfl
@[simp] theorem State.setFpscr_tr (s : State) (v : Word) : (s.setFpscr v).tr = s.tr := rfl
@[simp] theorem State.setFpscr_fr (s : State) (v : Word) : (s.setFpscr v).fr = s.fr := rfl
@[simp] theorem State.setFpscr_vbr (s : State) (v : Word) : (s.setFpscr v).vbr = s.vbr := rfl
@[simp] theorem State.setFpscr_gbr (s : State) (v : Word) : (s.setFpscr v).gbr = s.gbr := rfl
@[simp] theorem State.setFpscr_mach (s : State) (v : Word) : (s.setFpscr v).mach = s.mach := rfl
@[simp] theorem State.setFpscr_macl (s : State) (v : Word) : (s.setFpscr v).macl = s.macl := rfl
@[simp] theorem State.setFpscr_pr (s : State) (v : Word) : (s.setFpscr v).pr = s.pr := rfl
@[simp] theorem State.setFpscr_fpul (s : State) (v : Word) : (s.setFpscr v).fpul = s.fpul := rfl
@[simp] theorem State.setFpscr_pc (s : State) (v : Word) : (s.setFpscr v).pc = s.pc := rfl
@[simp] theorem State.setFpscr_ism (s : State) (v : Word) : (s.setFpscr v).ism = s.ism := rfl
@[simp] theorem State.setFpscr_endian (s : State) (v : Word) : (s.setFpscr v).endian = s.endian := rfl
@[simp] theorem State.setFpscr_pending (s : State) (v : Word) : (s.setFpscr v).pending = s.pending := rfl
@[simp] theorem State.setFpscr_dstate (s : State) (v : Word) : (s.setFpscr v).dstate = s.dstate := rfl
@[simp] theorem State.setFpscr_event (s : State) (v : Word) : (s.setFpscr v).event = s.event := rfl
@[simp] theorem State.setFpscr_refused (s : State) (v : Word) : (s.setFpscr v).refused = s.refused := rfl
@[simp] theorem State.setFpscr_mem (s : State) (v : Word) : (s.setFpscr v).mem = s.mem := rfl
@[simp] theorem State.setFpscr_params (s : State) (v : Word) : (s.setFpscr v).params = s.params := rfl
@[simp] theorem State.setFpscr_written (s : State) (v : Word) : (s.setFpscr v).written = s.written := rfl
@[simp] theorem State.setFpscr_draws (s : State) (v : Word) : (s.setFpscr v).draws = s.draws := rfl

/-! `setVbr` -/

@[simp] theorem State.setVbr_gr (s : State) (v : Word) : (s.setVbr v).gr = s.gr := rfl
@[simp] theorem State.setVbr_sr (s : State) (v : Word) : (s.setVbr v).sr = s.sr := rfl
@[simp] theorem State.setVbr_cr (s : State) (v : Word) : (s.setVbr v).cr = s.cr := rfl
@[simp] theorem State.setVbr_tr (s : State) (v : Word) : (s.setVbr v).tr = s.tr := rfl
@[simp] theorem State.setVbr_fr (s : State) (v : Word) : (s.setVbr v).fr = s.fr := rfl
@[simp] theorem State.setVbr_fpscr (s : State) (v : Word) : (s.setVbr v).fpscr = s.fpscr := rfl
@[simp] theorem State.setVbr_gbr (s : State) (v : Word) : (s.setVbr v).gbr = s.gbr := rfl
@[simp] theorem State.setVbr_mach (s : State) (v : Word) : (s.setVbr v).mach = s.mach := rfl
@[simp] theorem State.setVbr_macl (s : State) (v : Word) : (s.setVbr v).macl = s.macl := rfl
@[simp] theorem State.setVbr_pr (s : State) (v : Word) : (s.setVbr v).pr = s.pr := rfl
@[simp] theorem State.setVbr_fpul (s : State) (v : Word) : (s.setVbr v).fpul = s.fpul := rfl
@[simp] theorem State.setVbr_pc (s : State) (v : Word) : (s.setVbr v).pc = s.pc := rfl
@[simp] theorem State.setVbr_ism (s : State) (v : Word) : (s.setVbr v).ism = s.ism := rfl
@[simp] theorem State.setVbr_endian (s : State) (v : Word) : (s.setVbr v).endian = s.endian := rfl
@[simp] theorem State.setVbr_pending (s : State) (v : Word) : (s.setVbr v).pending = s.pending := rfl
@[simp] theorem State.setVbr_dstate (s : State) (v : Word) : (s.setVbr v).dstate = s.dstate := rfl
@[simp] theorem State.setVbr_event (s : State) (v : Word) : (s.setVbr v).event = s.event := rfl
@[simp] theorem State.setVbr_refused (s : State) (v : Word) : (s.setVbr v).refused = s.refused := rfl
@[simp] theorem State.setVbr_mem (s : State) (v : Word) : (s.setVbr v).mem = s.mem := rfl
@[simp] theorem State.setVbr_params (s : State) (v : Word) : (s.setVbr v).params = s.params := rfl
@[simp] theorem State.setVbr_written (s : State) (v : Word) : (s.setVbr v).written = s.written := rfl
@[simp] theorem State.setVbr_draws (s : State) (v : Word) : (s.setVbr v).draws = s.draws := rfl

/-! `setPC` -/

@[simp] theorem State.setPC_gr (s : State) (v : Quad) : (s.setPC v).gr = s.gr := rfl
@[simp] theorem State.setPC_sr (s : State) (v : Quad) : (s.setPC v).sr = s.sr := rfl
@[simp] theorem State.setPC_cr (s : State) (v : Quad) : (s.setPC v).cr = s.cr := rfl
@[simp] theorem State.setPC_tr (s : State) (v : Quad) : (s.setPC v).tr = s.tr := rfl
@[simp] theorem State.setPC_fr (s : State) (v : Quad) : (s.setPC v).fr = s.fr := rfl
@[simp] theorem State.setPC_fpscr (s : State) (v : Quad) : (s.setPC v).fpscr = s.fpscr := rfl
@[simp] theorem State.setPC_vbr (s : State) (v : Quad) : (s.setPC v).vbr = s.vbr := rfl
@[simp] theorem State.setPC_gbr (s : State) (v : Quad) : (s.setPC v).gbr = s.gbr := rfl
@[simp] theorem State.setPC_mach (s : State) (v : Quad) : (s.setPC v).mach = s.mach := rfl
@[simp] theorem State.setPC_macl (s : State) (v : Quad) : (s.setPC v).macl = s.macl := rfl
@[simp] theorem State.setPC_pr (s : State) (v : Quad) : (s.setPC v).pr = s.pr := rfl
@[simp] theorem State.setPC_fpul (s : State) (v : Quad) : (s.setPC v).fpul = s.fpul := rfl
@[simp] theorem State.setPC_ism (s : State) (v : Quad) : (s.setPC v).ism = s.ism := rfl
@[simp] theorem State.setPC_endian (s : State) (v : Quad) : (s.setPC v).endian = s.endian := rfl
@[simp] theorem State.setPC_pending (s : State) (v : Quad) : (s.setPC v).pending = s.pending := rfl
@[simp] theorem State.setPC_dstate (s : State) (v : Quad) : (s.setPC v).dstate = s.dstate := rfl
@[simp] theorem State.setPC_event (s : State) (v : Quad) : (s.setPC v).event = s.event := rfl
@[simp] theorem State.setPC_refused (s : State) (v : Quad) : (s.setPC v).refused = s.refused := rfl
@[simp] theorem State.setPC_mem (s : State) (v : Quad) : (s.setPC v).mem = s.mem := rfl
@[simp] theorem State.setPC_params (s : State) (v : Quad) : (s.setPC v).params = s.params := rfl
@[simp] theorem State.setPC_written (s : State) (v : Quad) : (s.setPC v).written = s.written := rfl
@[simp] theorem State.setPC_draws (s : State) (v : Quad) : (s.setPC v).draws = s.draws := rfl

/-! `setPCTagged` -/

@[simp] theorem State.setPCTagged_gr (s : State) (v : Quad) : (s.setPCTagged v).gr = s.gr := rfl
@[simp] theorem State.setPCTagged_sr (s : State) (v : Quad) : (s.setPCTagged v).sr = s.sr := rfl
@[simp] theorem State.setPCTagged_cr (s : State) (v : Quad) : (s.setPCTagged v).cr = s.cr := rfl
@[simp] theorem State.setPCTagged_tr (s : State) (v : Quad) : (s.setPCTagged v).tr = s.tr := rfl
@[simp] theorem State.setPCTagged_fr (s : State) (v : Quad) : (s.setPCTagged v).fr = s.fr := rfl
@[simp] theorem State.setPCTagged_fpscr (s : State) (v : Quad) : (s.setPCTagged v).fpscr = s.fpscr := rfl
@[simp] theorem State.setPCTagged_vbr (s : State) (v : Quad) : (s.setPCTagged v).vbr = s.vbr := rfl
@[simp] theorem State.setPCTagged_gbr (s : State) (v : Quad) : (s.setPCTagged v).gbr = s.gbr := rfl
@[simp] theorem State.setPCTagged_mach (s : State) (v : Quad) : (s.setPCTagged v).mach = s.mach := rfl
@[simp] theorem State.setPCTagged_macl (s : State) (v : Quad) : (s.setPCTagged v).macl = s.macl := rfl
@[simp] theorem State.setPCTagged_pr (s : State) (v : Quad) : (s.setPCTagged v).pr = s.pr := rfl
@[simp] theorem State.setPCTagged_fpul (s : State) (v : Quad) : (s.setPCTagged v).fpul = s.fpul := rfl
@[simp] theorem State.setPCTagged_endian (s : State) (v : Quad) : (s.setPCTagged v).endian = s.endian := rfl
@[simp] theorem State.setPCTagged_pending (s : State) (v : Quad) : (s.setPCTagged v).pending = s.pending := rfl
@[simp] theorem State.setPCTagged_dstate (s : State) (v : Quad) : (s.setPCTagged v).dstate = s.dstate := rfl
@[simp] theorem State.setPCTagged_event (s : State) (v : Quad) : (s.setPCTagged v).event = s.event := rfl
@[simp] theorem State.setPCTagged_refused (s : State) (v : Quad) : (s.setPCTagged v).refused = s.refused := rfl
@[simp] theorem State.setPCTagged_mem (s : State) (v : Quad) : (s.setPCTagged v).mem = s.mem := rfl
@[simp] theorem State.setPCTagged_params (s : State) (v : Quad) : (s.setPCTagged v).params = s.params := rfl
@[simp] theorem State.setPCTagged_written (s : State) (v : Quad) : (s.setPCTagged v).written = s.written := rfl
@[simp] theorem State.setPCTagged_draws (s : State) (v : Quad) : (s.setPCTagged v).draws = s.draws := rfl

/-! `write8` -/

@[simp] theorem State.write8_gr (s : State) (a : Quad) (v : Byte) : (s.write8 a v).gr = s.gr := rfl
@[simp] theorem State.write8_sr (s : State) (a : Quad) (v : Byte) : (s.write8 a v).sr = s.sr := rfl
@[simp] theorem State.write8_cr (s : State) (a : Quad) (v : Byte) : (s.write8 a v).cr = s.cr := rfl
@[simp] theorem State.write8_tr (s : State) (a : Quad) (v : Byte) : (s.write8 a v).tr = s.tr := rfl
@[simp] theorem State.write8_fr (s : State) (a : Quad) (v : Byte) : (s.write8 a v).fr = s.fr := rfl
@[simp] theorem State.write8_fpscr (s : State) (a : Quad) (v : Byte) : (s.write8 a v).fpscr = s.fpscr := rfl
@[simp] theorem State.write8_vbr (s : State) (a : Quad) (v : Byte) : (s.write8 a v).vbr = s.vbr := rfl
@[simp] theorem State.write8_gbr (s : State) (a : Quad) (v : Byte) : (s.write8 a v).gbr = s.gbr := rfl
@[simp] theorem State.write8_mach (s : State) (a : Quad) (v : Byte) : (s.write8 a v).mach = s.mach := rfl
@[simp] theorem State.write8_macl (s : State) (a : Quad) (v : Byte) : (s.write8 a v).macl = s.macl := rfl
@[simp] theorem State.write8_pr (s : State) (a : Quad) (v : Byte) : (s.write8 a v).pr = s.pr := rfl
@[simp] theorem State.write8_fpul (s : State) (a : Quad) (v : Byte) : (s.write8 a v).fpul = s.fpul := rfl
@[simp] theorem State.write8_pc (s : State) (a : Quad) (v : Byte) : (s.write8 a v).pc = s.pc := rfl
@[simp] theorem State.write8_ism (s : State) (a : Quad) (v : Byte) : (s.write8 a v).ism = s.ism := rfl
@[simp] theorem State.write8_endian (s : State) (a : Quad) (v : Byte) : (s.write8 a v).endian = s.endian := rfl
@[simp] theorem State.write8_pending (s : State) (a : Quad) (v : Byte) : (s.write8 a v).pending = s.pending := rfl
@[simp] theorem State.write8_dstate (s : State) (a : Quad) (v : Byte) : (s.write8 a v).dstate = s.dstate := rfl
@[simp] theorem State.write8_event (s : State) (a : Quad) (v : Byte) : (s.write8 a v).event = s.event := rfl
@[simp] theorem State.write8_refused (s : State) (a : Quad) (v : Byte) : (s.write8 a v).refused = s.refused := rfl
@[simp] theorem State.write8_params (s : State) (a : Quad) (v : Byte) : (s.write8 a v).params = s.params := rfl
@[simp] theorem State.write8_written (s : State) (a : Quad) (v : Byte) : (s.write8 a v).written = s.written := rfl
@[simp] theorem State.write8_draws (s : State) (a : Quad) (v : Byte) : (s.write8 a v).draws = s.draws := rfl

/-! `write16` -/

@[simp] theorem State.write16_gr (s : State) (a : Quad) (v : Half) : (s.write16 a v).gr = s.gr := rfl
@[simp] theorem State.write16_sr (s : State) (a : Quad) (v : Half) : (s.write16 a v).sr = s.sr := rfl
@[simp] theorem State.write16_cr (s : State) (a : Quad) (v : Half) : (s.write16 a v).cr = s.cr := rfl
@[simp] theorem State.write16_tr (s : State) (a : Quad) (v : Half) : (s.write16 a v).tr = s.tr := rfl
@[simp] theorem State.write16_fr (s : State) (a : Quad) (v : Half) : (s.write16 a v).fr = s.fr := rfl
@[simp] theorem State.write16_fpscr (s : State) (a : Quad) (v : Half) : (s.write16 a v).fpscr = s.fpscr := rfl
@[simp] theorem State.write16_vbr (s : State) (a : Quad) (v : Half) : (s.write16 a v).vbr = s.vbr := rfl
@[simp] theorem State.write16_gbr (s : State) (a : Quad) (v : Half) : (s.write16 a v).gbr = s.gbr := rfl
@[simp] theorem State.write16_mach (s : State) (a : Quad) (v : Half) : (s.write16 a v).mach = s.mach := rfl
@[simp] theorem State.write16_macl (s : State) (a : Quad) (v : Half) : (s.write16 a v).macl = s.macl := rfl
@[simp] theorem State.write16_pr (s : State) (a : Quad) (v : Half) : (s.write16 a v).pr = s.pr := rfl
@[simp] theorem State.write16_fpul (s : State) (a : Quad) (v : Half) : (s.write16 a v).fpul = s.fpul := rfl
@[simp] theorem State.write16_pc (s : State) (a : Quad) (v : Half) : (s.write16 a v).pc = s.pc := rfl
@[simp] theorem State.write16_ism (s : State) (a : Quad) (v : Half) : (s.write16 a v).ism = s.ism := rfl
@[simp] theorem State.write16_endian (s : State) (a : Quad) (v : Half) : (s.write16 a v).endian = s.endian := rfl
@[simp] theorem State.write16_pending (s : State) (a : Quad) (v : Half) : (s.write16 a v).pending = s.pending := rfl
@[simp] theorem State.write16_dstate (s : State) (a : Quad) (v : Half) : (s.write16 a v).dstate = s.dstate := rfl
@[simp] theorem State.write16_event (s : State) (a : Quad) (v : Half) : (s.write16 a v).event = s.event := rfl
@[simp] theorem State.write16_refused (s : State) (a : Quad) (v : Half) : (s.write16 a v).refused = s.refused := rfl
@[simp] theorem State.write16_params (s : State) (a : Quad) (v : Half) : (s.write16 a v).params = s.params := rfl
@[simp] theorem State.write16_written (s : State) (a : Quad) (v : Half) : (s.write16 a v).written = s.written := rfl
@[simp] theorem State.write16_draws (s : State) (a : Quad) (v : Half) : (s.write16 a v).draws = s.draws := rfl

/-! `write32` -/

@[simp] theorem State.write32_gr (s : State) (a : Quad) (v : Word) : (s.write32 a v).gr = s.gr := rfl
@[simp] theorem State.write32_sr (s : State) (a : Quad) (v : Word) : (s.write32 a v).sr = s.sr := rfl
@[simp] theorem State.write32_cr (s : State) (a : Quad) (v : Word) : (s.write32 a v).cr = s.cr := rfl
@[simp] theorem State.write32_tr (s : State) (a : Quad) (v : Word) : (s.write32 a v).tr = s.tr := rfl
@[simp] theorem State.write32_fr (s : State) (a : Quad) (v : Word) : (s.write32 a v).fr = s.fr := rfl
@[simp] theorem State.write32_fpscr (s : State) (a : Quad) (v : Word) : (s.write32 a v).fpscr = s.fpscr := rfl
@[simp] theorem State.write32_vbr (s : State) (a : Quad) (v : Word) : (s.write32 a v).vbr = s.vbr := rfl
@[simp] theorem State.write32_gbr (s : State) (a : Quad) (v : Word) : (s.write32 a v).gbr = s.gbr := rfl
@[simp] theorem State.write32_mach (s : State) (a : Quad) (v : Word) : (s.write32 a v).mach = s.mach := rfl
@[simp] theorem State.write32_macl (s : State) (a : Quad) (v : Word) : (s.write32 a v).macl = s.macl := rfl
@[simp] theorem State.write32_pr (s : State) (a : Quad) (v : Word) : (s.write32 a v).pr = s.pr := rfl
@[simp] theorem State.write32_fpul (s : State) (a : Quad) (v : Word) : (s.write32 a v).fpul = s.fpul := rfl
@[simp] theorem State.write32_pc (s : State) (a : Quad) (v : Word) : (s.write32 a v).pc = s.pc := rfl
@[simp] theorem State.write32_ism (s : State) (a : Quad) (v : Word) : (s.write32 a v).ism = s.ism := rfl
@[simp] theorem State.write32_endian (s : State) (a : Quad) (v : Word) : (s.write32 a v).endian = s.endian := rfl
@[simp] theorem State.write32_pending (s : State) (a : Quad) (v : Word) : (s.write32 a v).pending = s.pending := rfl
@[simp] theorem State.write32_dstate (s : State) (a : Quad) (v : Word) : (s.write32 a v).dstate = s.dstate := rfl
@[simp] theorem State.write32_event (s : State) (a : Quad) (v : Word) : (s.write32 a v).event = s.event := rfl
@[simp] theorem State.write32_refused (s : State) (a : Quad) (v : Word) : (s.write32 a v).refused = s.refused := rfl
@[simp] theorem State.write32_params (s : State) (a : Quad) (v : Word) : (s.write32 a v).params = s.params := rfl
@[simp] theorem State.write32_written (s : State) (a : Quad) (v : Word) : (s.write32 a v).written = s.written := rfl
@[simp] theorem State.write32_draws (s : State) (a : Quad) (v : Word) : (s.write32 a v).draws = s.draws := rfl

/-! `write64` -/

@[simp] theorem State.write64_gr (s : State) (a v : Quad) : (s.write64 a v).gr = s.gr := rfl
@[simp] theorem State.write64_sr (s : State) (a v : Quad) : (s.write64 a v).sr = s.sr := rfl
@[simp] theorem State.write64_cr (s : State) (a v : Quad) : (s.write64 a v).cr = s.cr := rfl
@[simp] theorem State.write64_tr (s : State) (a v : Quad) : (s.write64 a v).tr = s.tr := rfl
@[simp] theorem State.write64_fr (s : State) (a v : Quad) : (s.write64 a v).fr = s.fr := rfl
@[simp] theorem State.write64_fpscr (s : State) (a v : Quad) : (s.write64 a v).fpscr = s.fpscr := rfl
@[simp] theorem State.write64_vbr (s : State) (a v : Quad) : (s.write64 a v).vbr = s.vbr := rfl
@[simp] theorem State.write64_gbr (s : State) (a v : Quad) : (s.write64 a v).gbr = s.gbr := rfl
@[simp] theorem State.write64_mach (s : State) (a v : Quad) : (s.write64 a v).mach = s.mach := rfl
@[simp] theorem State.write64_macl (s : State) (a v : Quad) : (s.write64 a v).macl = s.macl := rfl
@[simp] theorem State.write64_pr (s : State) (a v : Quad) : (s.write64 a v).pr = s.pr := rfl
@[simp] theorem State.write64_fpul (s : State) (a v : Quad) : (s.write64 a v).fpul = s.fpul := rfl
@[simp] theorem State.write64_pc (s : State) (a v : Quad) : (s.write64 a v).pc = s.pc := rfl
@[simp] theorem State.write64_ism (s : State) (a v : Quad) : (s.write64 a v).ism = s.ism := rfl
@[simp] theorem State.write64_endian (s : State) (a v : Quad) : (s.write64 a v).endian = s.endian := rfl
@[simp] theorem State.write64_pending (s : State) (a v : Quad) : (s.write64 a v).pending = s.pending := rfl
@[simp] theorem State.write64_dstate (s : State) (a v : Quad) : (s.write64 a v).dstate = s.dstate := rfl
@[simp] theorem State.write64_event (s : State) (a v : Quad) : (s.write64 a v).event = s.event := rfl
@[simp] theorem State.write64_refused (s : State) (a v : Quad) : (s.write64 a v).refused = s.refused := rfl
@[simp] theorem State.write64_params (s : State) (a v : Quad) : (s.write64 a v).params = s.params := rfl
@[simp] theorem State.write64_written (s : State) (a v : Quad) : (s.write64 a v).written = s.written := rfl
@[simp] theorem State.write64_draws (s : State) (a v : Quad) : (s.write64 a v).draws = s.draws := rfl

/-! `writePair` -/

@[simp] theorem State.writePair_gr (s : State) (a v : Quad) : (s.writePair a v).gr = s.gr := rfl
@[simp] theorem State.writePair_sr (s : State) (a v : Quad) : (s.writePair a v).sr = s.sr := rfl
@[simp] theorem State.writePair_cr (s : State) (a v : Quad) : (s.writePair a v).cr = s.cr := rfl
@[simp] theorem State.writePair_tr (s : State) (a v : Quad) : (s.writePair a v).tr = s.tr := rfl
@[simp] theorem State.writePair_fr (s : State) (a v : Quad) : (s.writePair a v).fr = s.fr := rfl
@[simp] theorem State.writePair_fpscr (s : State) (a v : Quad) : (s.writePair a v).fpscr = s.fpscr := rfl
@[simp] theorem State.writePair_vbr (s : State) (a v : Quad) : (s.writePair a v).vbr = s.vbr := rfl
@[simp] theorem State.writePair_gbr (s : State) (a v : Quad) : (s.writePair a v).gbr = s.gbr := rfl
@[simp] theorem State.writePair_mach (s : State) (a v : Quad) : (s.writePair a v).mach = s.mach := rfl
@[simp] theorem State.writePair_macl (s : State) (a v : Quad) : (s.writePair a v).macl = s.macl := rfl
@[simp] theorem State.writePair_pr (s : State) (a v : Quad) : (s.writePair a v).pr = s.pr := rfl
@[simp] theorem State.writePair_fpul (s : State) (a v : Quad) : (s.writePair a v).fpul = s.fpul := rfl
@[simp] theorem State.writePair_pc (s : State) (a v : Quad) : (s.writePair a v).pc = s.pc := rfl
@[simp] theorem State.writePair_ism (s : State) (a v : Quad) : (s.writePair a v).ism = s.ism := rfl
@[simp] theorem State.writePair_endian (s : State) (a v : Quad) : (s.writePair a v).endian = s.endian := rfl
@[simp] theorem State.writePair_pending (s : State) (a v : Quad) : (s.writePair a v).pending = s.pending := rfl
@[simp] theorem State.writePair_dstate (s : State) (a v : Quad) : (s.writePair a v).dstate = s.dstate := rfl
@[simp] theorem State.writePair_event (s : State) (a v : Quad) : (s.writePair a v).event = s.event := rfl
@[simp] theorem State.writePair_refused (s : State) (a v : Quad) : (s.writePair a v).refused = s.refused := rfl
@[simp] theorem State.writePair_params (s : State) (a v : Quad) : (s.writePair a v).params = s.params := rfl
@[simp] theorem State.writePair_written (s : State) (a v : Quad) : (s.writePair a v).written = s.written := rfl
@[simp] theorem State.writePair_draws (s : State) (a v : Quad) : (s.writePair a v).draws = s.draws := rfl

/-! `setC` -/

@[simp] theorem State.setC_gr (s : State) (k : MReg) (v : Quad) : (s.setC k v).gr = s.gr := by
  unfold State.setC; split <;> rfl
@[simp] theorem State.setC_tr (s : State) (k : MReg) (v : Quad) : (s.setC k v).tr = s.tr := by
  unfold State.setC; split <;> rfl
@[simp] theorem State.setC_fr (s : State) (k : MReg) (v : Quad) : (s.setC k v).fr = s.fr := by
  unfold State.setC; split <;> rfl
@[simp] theorem State.setC_fpscr (s : State) (k : MReg) (v : Quad) : (s.setC k v).fpscr = s.fpscr := by
  unfold State.setC; split <;> rfl
@[simp] theorem State.setC_vbr (s : State) (k : MReg) (v : Quad) : (s.setC k v).vbr = s.vbr := by
  unfold State.setC; split <;> rfl
@[simp] theorem State.setC_gbr (s : State) (k : MReg) (v : Quad) : (s.setC k v).gbr = s.gbr := by
  unfold State.setC; split <;> rfl
@[simp] theorem State.setC_mach (s : State) (k : MReg) (v : Quad) : (s.setC k v).mach = s.mach := by
  unfold State.setC; split <;> rfl
@[simp] theorem State.setC_macl (s : State) (k : MReg) (v : Quad) : (s.setC k v).macl = s.macl := by
  unfold State.setC; split <;> rfl
@[simp] theorem State.setC_pr (s : State) (k : MReg) (v : Quad) : (s.setC k v).pr = s.pr := by
  unfold State.setC; split <;> rfl
@[simp] theorem State.setC_fpul (s : State) (k : MReg) (v : Quad) : (s.setC k v).fpul = s.fpul := by
  unfold State.setC; split <;> rfl
@[simp] theorem State.setC_pc (s : State) (k : MReg) (v : Quad) : (s.setC k v).pc = s.pc := by
  unfold State.setC; split <;> rfl
@[simp] theorem State.setC_ism (s : State) (k : MReg) (v : Quad) : (s.setC k v).ism = s.ism := by
  unfold State.setC; split <;> rfl
@[simp] theorem State.setC_endian (s : State) (k : MReg) (v : Quad) : (s.setC k v).endian = s.endian := by
  unfold State.setC; split <;> rfl
@[simp] theorem State.setC_pending (s : State) (k : MReg) (v : Quad) : (s.setC k v).pending = s.pending := by
  unfold State.setC; split <;> rfl
@[simp] theorem State.setC_dstate (s : State) (k : MReg) (v : Quad) : (s.setC k v).dstate = s.dstate := by
  unfold State.setC; split <;> rfl
@[simp] theorem State.setC_event (s : State) (k : MReg) (v : Quad) : (s.setC k v).event = s.event := by
  unfold State.setC; split <;> rfl
@[simp] theorem State.setC_refused (s : State) (k : MReg) (v : Quad) : (s.setC k v).refused = s.refused := by
  unfold State.setC; split <;> rfl
@[simp] theorem State.setC_mem (s : State) (k : MReg) (v : Quad) : (s.setC k v).mem = s.mem := by
  unfold State.setC; split <;> rfl
@[simp] theorem State.setC_params (s : State) (k : MReg) (v : Quad) : (s.setC k v).params = s.params := by
  unfold State.setC; split <;> rfl
@[simp] theorem State.setC_written (s : State) (k : MReg) (v : Quad) : (s.setC k v).written = s.written := by
  unfold State.setC; split <;> rfl
@[simp] theorem State.setC_draws (s : State) (k : MReg) (v : Quad) : (s.setC k v).draws = s.draws := by
  unfold State.setC; split <;> rfl

/-! `setGbr` -/

@[simp] theorem State.setGbr_sr (s : State) (v : Word) : (s.setGbr v).sr = s.sr := by
  unfold State.setGbr; split <;> rfl
@[simp] theorem State.setGbr_cr (s : State) (v : Word) : (s.setGbr v).cr = s.cr := by
  unfold State.setGbr; split <;> rfl
@[simp] theorem State.setGbr_tr (s : State) (v : Word) : (s.setGbr v).tr = s.tr := by
  unfold State.setGbr; split <;> rfl
@[simp] theorem State.setGbr_fr (s : State) (v : Word) : (s.setGbr v).fr = s.fr := by
  unfold State.setGbr; split <;> rfl
@[simp] theorem State.setGbr_fpscr (s : State) (v : Word) : (s.setGbr v).fpscr = s.fpscr := by
  unfold State.setGbr; split <;> rfl
@[simp] theorem State.setGbr_vbr (s : State) (v : Word) : (s.setGbr v).vbr = s.vbr := by
  unfold State.setGbr; split <;> rfl
@[simp] theorem State.setGbr_mach (s : State) (v : Word) : (s.setGbr v).mach = s.mach := by
  unfold State.setGbr; split <;> rfl
@[simp] theorem State.setGbr_macl (s : State) (v : Word) : (s.setGbr v).macl = s.macl := by
  unfold State.setGbr; split <;> rfl
@[simp] theorem State.setGbr_pr (s : State) (v : Word) : (s.setGbr v).pr = s.pr := by
  unfold State.setGbr; split <;> rfl
@[simp] theorem State.setGbr_fpul (s : State) (v : Word) : (s.setGbr v).fpul = s.fpul := by
  unfold State.setGbr; split <;> rfl
@[simp] theorem State.setGbr_pc (s : State) (v : Word) : (s.setGbr v).pc = s.pc := by
  unfold State.setGbr; split <;> rfl
@[simp] theorem State.setGbr_ism (s : State) (v : Word) : (s.setGbr v).ism = s.ism := by
  unfold State.setGbr; split <;> rfl
@[simp] theorem State.setGbr_endian (s : State) (v : Word) : (s.setGbr v).endian = s.endian := by
  unfold State.setGbr; split <;> rfl
@[simp] theorem State.setGbr_pending (s : State) (v : Word) : (s.setGbr v).pending = s.pending := by
  unfold State.setGbr; split <;> rfl
@[simp] theorem State.setGbr_dstate (s : State) (v : Word) : (s.setGbr v).dstate = s.dstate := by
  unfold State.setGbr; split <;> rfl
@[simp] theorem State.setGbr_event (s : State) (v : Word) : (s.setGbr v).event = s.event := by
  unfold State.setGbr; split <;> rfl
@[simp] theorem State.setGbr_refused (s : State) (v : Word) : (s.setGbr v).refused = s.refused := by
  unfold State.setGbr; split <;> rfl
@[simp] theorem State.setGbr_mem (s : State) (v : Word) : (s.setGbr v).mem = s.mem := by
  unfold State.setGbr; split <;> rfl
@[simp] theorem State.setGbr_params (s : State) (v : Word) : (s.setGbr v).params = s.params := by
  unfold State.setGbr; split <;> rfl
@[simp] theorem State.setGbr_written (s : State) (v : Word) : (s.setGbr v).written = s.written := by
  unfold State.setGbr; split <;> rfl
@[simp] theorem State.setGbr_draws (s : State) (v : Word) : (s.setGbr v).draws = s.draws := by
  unfold State.setGbr; split <;> rfl

/-! `setMacl` -/

@[simp] theorem State.setMacl_sr (s : State) (v : Word) : (s.setMacl v).sr = s.sr := by
  unfold State.setMacl; split <;> rfl
@[simp] theorem State.setMacl_cr (s : State) (v : Word) : (s.setMacl v).cr = s.cr := by
  unfold State.setMacl; split <;> rfl
@[simp] theorem State.setMacl_tr (s : State) (v : Word) : (s.setMacl v).tr = s.tr := by
  unfold State.setMacl; split <;> rfl
@[simp] theorem State.setMacl_fr (s : State) (v : Word) : (s.setMacl v).fr = s.fr := by
  unfold State.setMacl; split <;> rfl
@[simp] theorem State.setMacl_fpscr (s : State) (v : Word) : (s.setMacl v).fpscr = s.fpscr := by
  unfold State.setMacl; split <;> rfl
@[simp] theorem State.setMacl_vbr (s : State) (v : Word) : (s.setMacl v).vbr = s.vbr := by
  unfold State.setMacl; split <;> rfl
@[simp] theorem State.setMacl_gbr (s : State) (v : Word) : (s.setMacl v).gbr = s.gbr := by
  unfold State.setMacl; split <;> rfl
@[simp] theorem State.setMacl_mach (s : State) (v : Word) : (s.setMacl v).mach = s.mach := by
  unfold State.setMacl; split <;> rfl
@[simp] theorem State.setMacl_pr (s : State) (v : Word) : (s.setMacl v).pr = s.pr := by
  unfold State.setMacl; split <;> rfl
@[simp] theorem State.setMacl_fpul (s : State) (v : Word) : (s.setMacl v).fpul = s.fpul := by
  unfold State.setMacl; split <;> rfl
@[simp] theorem State.setMacl_pc (s : State) (v : Word) : (s.setMacl v).pc = s.pc := by
  unfold State.setMacl; split <;> rfl
@[simp] theorem State.setMacl_ism (s : State) (v : Word) : (s.setMacl v).ism = s.ism := by
  unfold State.setMacl; split <;> rfl
@[simp] theorem State.setMacl_endian (s : State) (v : Word) : (s.setMacl v).endian = s.endian := by
  unfold State.setMacl; split <;> rfl
@[simp] theorem State.setMacl_pending (s : State) (v : Word) : (s.setMacl v).pending = s.pending := by
  unfold State.setMacl; split <;> rfl
@[simp] theorem State.setMacl_dstate (s : State) (v : Word) : (s.setMacl v).dstate = s.dstate := by
  unfold State.setMacl; split <;> rfl
@[simp] theorem State.setMacl_event (s : State) (v : Word) : (s.setMacl v).event = s.event := by
  unfold State.setMacl; split <;> rfl
@[simp] theorem State.setMacl_refused (s : State) (v : Word) : (s.setMacl v).refused = s.refused := by
  unfold State.setMacl; split <;> rfl
@[simp] theorem State.setMacl_mem (s : State) (v : Word) : (s.setMacl v).mem = s.mem := by
  unfold State.setMacl; split <;> rfl
@[simp] theorem State.setMacl_params (s : State) (v : Word) : (s.setMacl v).params = s.params := by
  unfold State.setMacl; split <;> rfl
@[simp] theorem State.setMacl_written (s : State) (v : Word) : (s.setMacl v).written = s.written := by
  unfold State.setMacl; split <;> rfl
@[simp] theorem State.setMacl_draws (s : State) (v : Word) : (s.setMacl v).draws = s.draws := by
  unfold State.setMacl; split <;> rfl

/-! `setMach` -/

@[simp] theorem State.setMach_sr (s : State) (v : Word) : (s.setMach v).sr = s.sr := by
  unfold State.setMach; split <;> rfl
@[simp] theorem State.setMach_cr (s : State) (v : Word) : (s.setMach v).cr = s.cr := by
  unfold State.setMach; split <;> rfl
@[simp] theorem State.setMach_tr (s : State) (v : Word) : (s.setMach v).tr = s.tr := by
  unfold State.setMach; split <;> rfl
@[simp] theorem State.setMach_fr (s : State) (v : Word) : (s.setMach v).fr = s.fr := by
  unfold State.setMach; split <;> rfl
@[simp] theorem State.setMach_fpscr (s : State) (v : Word) : (s.setMach v).fpscr = s.fpscr := by
  unfold State.setMach; split <;> rfl
@[simp] theorem State.setMach_vbr (s : State) (v : Word) : (s.setMach v).vbr = s.vbr := by
  unfold State.setMach; split <;> rfl
@[simp] theorem State.setMach_gbr (s : State) (v : Word) : (s.setMach v).gbr = s.gbr := by
  unfold State.setMach; split <;> rfl
@[simp] theorem State.setMach_macl (s : State) (v : Word) : (s.setMach v).macl = s.macl := by
  unfold State.setMach; split <;> rfl
@[simp] theorem State.setMach_pr (s : State) (v : Word) : (s.setMach v).pr = s.pr := by
  unfold State.setMach; split <;> rfl
@[simp] theorem State.setMach_fpul (s : State) (v : Word) : (s.setMach v).fpul = s.fpul := by
  unfold State.setMach; split <;> rfl
@[simp] theorem State.setMach_pc (s : State) (v : Word) : (s.setMach v).pc = s.pc := by
  unfold State.setMach; split <;> rfl
@[simp] theorem State.setMach_ism (s : State) (v : Word) : (s.setMach v).ism = s.ism := by
  unfold State.setMach; split <;> rfl
@[simp] theorem State.setMach_endian (s : State) (v : Word) : (s.setMach v).endian = s.endian := by
  unfold State.setMach; split <;> rfl
@[simp] theorem State.setMach_pending (s : State) (v : Word) : (s.setMach v).pending = s.pending := by
  unfold State.setMach; split <;> rfl
@[simp] theorem State.setMach_dstate (s : State) (v : Word) : (s.setMach v).dstate = s.dstate := by
  unfold State.setMach; split <;> rfl
@[simp] theorem State.setMach_event (s : State) (v : Word) : (s.setMach v).event = s.event := by
  unfold State.setMach; split <;> rfl
@[simp] theorem State.setMach_refused (s : State) (v : Word) : (s.setMach v).refused = s.refused := by
  unfold State.setMach; split <;> rfl
@[simp] theorem State.setMach_mem (s : State) (v : Word) : (s.setMach v).mem = s.mem := by
  unfold State.setMach; split <;> rfl
@[simp] theorem State.setMach_params (s : State) (v : Word) : (s.setMach v).params = s.params := by
  unfold State.setMach; split <;> rfl
@[simp] theorem State.setMach_written (s : State) (v : Word) : (s.setMach v).written = s.written := by
  unfold State.setMach; split <;> rfl
@[simp] theorem State.setMach_draws (s : State) (v : Word) : (s.setMach v).draws = s.draws := by
  unfold State.setMach; split <;> rfl

/-! `setPr` -/

@[simp] theorem State.setPr_sr (s : State) (v : Word) : (s.setPr v).sr = s.sr := by
  unfold State.setPr; split <;> rfl
@[simp] theorem State.setPr_cr (s : State) (v : Word) : (s.setPr v).cr = s.cr := by
  unfold State.setPr; split <;> rfl
@[simp] theorem State.setPr_tr (s : State) (v : Word) : (s.setPr v).tr = s.tr := by
  unfold State.setPr; split <;> rfl
@[simp] theorem State.setPr_fr (s : State) (v : Word) : (s.setPr v).fr = s.fr := by
  unfold State.setPr; split <;> rfl
@[simp] theorem State.setPr_fpscr (s : State) (v : Word) : (s.setPr v).fpscr = s.fpscr := by
  unfold State.setPr; split <;> rfl
@[simp] theorem State.setPr_vbr (s : State) (v : Word) : (s.setPr v).vbr = s.vbr := by
  unfold State.setPr; split <;> rfl
@[simp] theorem State.setPr_gbr (s : State) (v : Word) : (s.setPr v).gbr = s.gbr := by
  unfold State.setPr; split <;> rfl
@[simp] theorem State.setPr_mach (s : State) (v : Word) : (s.setPr v).mach = s.mach := by
  unfold State.setPr; split <;> rfl
@[simp] theorem State.setPr_macl (s : State) (v : Word) : (s.setPr v).macl = s.macl := by
  unfold State.setPr; split <;> rfl
@[simp] theorem State.setPr_fpul (s : State) (v : Word) : (s.setPr v).fpul = s.fpul := by
  unfold State.setPr; split <;> rfl
@[simp] theorem State.setPr_pc (s : State) (v : Word) : (s.setPr v).pc = s.pc := by
  unfold State.setPr; split <;> rfl
@[simp] theorem State.setPr_ism (s : State) (v : Word) : (s.setPr v).ism = s.ism := by
  unfold State.setPr; split <;> rfl
@[simp] theorem State.setPr_endian (s : State) (v : Word) : (s.setPr v).endian = s.endian := by
  unfold State.setPr; split <;> rfl
@[simp] theorem State.setPr_pending (s : State) (v : Word) : (s.setPr v).pending = s.pending := by
  unfold State.setPr; split <;> rfl
@[simp] theorem State.setPr_dstate (s : State) (v : Word) : (s.setPr v).dstate = s.dstate := by
  unfold State.setPr; split <;> rfl
@[simp] theorem State.setPr_event (s : State) (v : Word) : (s.setPr v).event = s.event := by
  unfold State.setPr; split <;> rfl
@[simp] theorem State.setPr_refused (s : State) (v : Word) : (s.setPr v).refused = s.refused := by
  unfold State.setPr; split <;> rfl
@[simp] theorem State.setPr_mem (s : State) (v : Word) : (s.setPr v).mem = s.mem := by
  unfold State.setPr; split <;> rfl
@[simp] theorem State.setPr_params (s : State) (v : Word) : (s.setPr v).params = s.params := by
  unfold State.setPr; split <;> rfl
@[simp] theorem State.setPr_written (s : State) (v : Word) : (s.setPr v).written = s.written := by
  unfold State.setPr; split <;> rfl
@[simp] theorem State.setPr_draws (s : State) (v : Word) : (s.setPr v).draws = s.draws := by
  unfold State.setPr; split <;> rfl

/-! `setFpul` -/

@[simp] theorem State.setFpul_gr (s : State) (v : Word) : (s.setFpul v).gr = s.gr := by
  unfold State.setFpul; split <;> rfl
@[simp] theorem State.setFpul_sr (s : State) (v : Word) : (s.setFpul v).sr = s.sr := by
  unfold State.setFpul; split <;> rfl
@[simp] theorem State.setFpul_cr (s : State) (v : Word) : (s.setFpul v).cr = s.cr := by
  unfold State.setFpul; split <;> rfl
@[simp] theorem State.setFpul_tr (s : State) (v : Word) : (s.setFpul v).tr = s.tr := by
  unfold State.setFpul; split <;> rfl
@[simp] theorem State.setFpul_fpscr (s : State) (v : Word) : (s.setFpul v).fpscr = s.fpscr := by
  unfold State.setFpul; split <;> rfl
@[simp] theorem State.setFpul_vbr (s : State) (v : Word) : (s.setFpul v).vbr = s.vbr := by
  unfold State.setFpul; split <;> rfl
@[simp] theorem State.setFpul_gbr (s : State) (v : Word) : (s.setFpul v).gbr = s.gbr := by
  unfold State.setFpul; split <;> rfl
@[simp] theorem State.setFpul_mach (s : State) (v : Word) : (s.setFpul v).mach = s.mach := by
  unfold State.setFpul; split <;> rfl
@[simp] theorem State.setFpul_macl (s : State) (v : Word) : (s.setFpul v).macl = s.macl := by
  unfold State.setFpul; split <;> rfl
@[simp] theorem State.setFpul_pr (s : State) (v : Word) : (s.setFpul v).pr = s.pr := by
  unfold State.setFpul; split <;> rfl
@[simp] theorem State.setFpul_pc (s : State) (v : Word) : (s.setFpul v).pc = s.pc := by
  unfold State.setFpul; split <;> rfl
@[simp] theorem State.setFpul_ism (s : State) (v : Word) : (s.setFpul v).ism = s.ism := by
  unfold State.setFpul; split <;> rfl
@[simp] theorem State.setFpul_endian (s : State) (v : Word) : (s.setFpul v).endian = s.endian := by
  unfold State.setFpul; split <;> rfl
@[simp] theorem State.setFpul_pending (s : State) (v : Word) : (s.setFpul v).pending = s.pending := by
  unfold State.setFpul; split <;> rfl
@[simp] theorem State.setFpul_dstate (s : State) (v : Word) : (s.setFpul v).dstate = s.dstate := by
  unfold State.setFpul; split <;> rfl
@[simp] theorem State.setFpul_event (s : State) (v : Word) : (s.setFpul v).event = s.event := by
  unfold State.setFpul; split <;> rfl
@[simp] theorem State.setFpul_refused (s : State) (v : Word) : (s.setFpul v).refused = s.refused := by
  unfold State.setFpul; split <;> rfl
@[simp] theorem State.setFpul_mem (s : State) (v : Word) : (s.setFpul v).mem = s.mem := by
  unfold State.setFpul; split <;> rfl
@[simp] theorem State.setFpul_params (s : State) (v : Word) : (s.setFpul v).params = s.params := by
  unfold State.setFpul; split <;> rfl
@[simp] theorem State.setFpul_written (s : State) (v : Word) : (s.setFpul v).written = s.written := by
  unfold State.setFpul; split <;> rfl
@[simp] theorem State.setFpul_draws (s : State) (v : Word) : (s.setFpul v).draws = s.draws := by
  unfold State.setFpul; split <;> rfl

/-! `setMac` -/

@[simp] theorem State.setMac_sr (s : State) (v : Quad) : (s.setMac v).sr = s.sr := by simp [State.setMac]
@[simp] theorem State.setMac_cr (s : State) (v : Quad) : (s.setMac v).cr = s.cr := by simp [State.setMac]
@[simp] theorem State.setMac_tr (s : State) (v : Quad) : (s.setMac v).tr = s.tr := by simp [State.setMac]
@[simp] theorem State.setMac_fr (s : State) (v : Quad) : (s.setMac v).fr = s.fr := by simp [State.setMac]
@[simp] theorem State.setMac_fpscr (s : State) (v : Quad) : (s.setMac v).fpscr = s.fpscr := by simp [State.setMac]
@[simp] theorem State.setMac_vbr (s : State) (v : Quad) : (s.setMac v).vbr = s.vbr := by simp [State.setMac]
@[simp] theorem State.setMac_gbr (s : State) (v : Quad) : (s.setMac v).gbr = s.gbr := by simp [State.setMac]
@[simp] theorem State.setMac_pr (s : State) (v : Quad) : (s.setMac v).pr = s.pr := by simp [State.setMac]
@[simp] theorem State.setMac_fpul (s : State) (v : Quad) : (s.setMac v).fpul = s.fpul := by simp [State.setMac]
@[simp] theorem State.setMac_pc (s : State) (v : Quad) : (s.setMac v).pc = s.pc := by simp [State.setMac]
@[simp] theorem State.setMac_ism (s : State) (v : Quad) : (s.setMac v).ism = s.ism := by simp [State.setMac]
@[simp] theorem State.setMac_endian (s : State) (v : Quad) : (s.setMac v).endian = s.endian := by simp [State.setMac]
@[simp] theorem State.setMac_pending (s : State) (v : Quad) : (s.setMac v).pending = s.pending := by simp [State.setMac]
@[simp] theorem State.setMac_dstate (s : State) (v : Quad) : (s.setMac v).dstate = s.dstate := by simp [State.setMac]
@[simp] theorem State.setMac_event (s : State) (v : Quad) : (s.setMac v).event = s.event := by simp [State.setMac]
@[simp] theorem State.setMac_refused (s : State) (v : Quad) : (s.setMac v).refused = s.refused := by simp [State.setMac]
@[simp] theorem State.setMac_mem (s : State) (v : Quad) : (s.setMac v).mem = s.mem := by simp [State.setMac]
@[simp] theorem State.setMac_params (s : State) (v : Quad) : (s.setMac v).params = s.params := by simp [State.setMac]
@[simp] theorem State.setMac_written (s : State) (v : Quad) : (s.setMac v).written = s.written := by simp [State.setMac]
@[simp] theorem State.setMac_draws (s : State) (v : Quad) : (s.setMac v).draws = s.draws := by simp [State.setMac]

/-! `commitPending` -/

@[simp] theorem State.commitPending_gr (s : State) : (s.commitPending).gr = s.gr := by
  unfold State.commitPending; split
  · rfl
  · split <;> rfl
@[simp] theorem State.commitPending_sr (s : State) : (s.commitPending).sr = s.sr := by
  unfold State.commitPending; split
  · rfl
  · split <;> rfl
@[simp] theorem State.commitPending_cr (s : State) : (s.commitPending).cr = s.cr := by
  unfold State.commitPending; split
  · rfl
  · split <;> rfl
@[simp] theorem State.commitPending_tr (s : State) : (s.commitPending).tr = s.tr := by
  unfold State.commitPending; split
  · rfl
  · split <;> rfl
@[simp] theorem State.commitPending_fr (s : State) : (s.commitPending).fr = s.fr := by
  unfold State.commitPending; split
  · rfl
  · split <;> rfl
@[simp] theorem State.commitPending_fpscr (s : State) : (s.commitPending).fpscr = s.fpscr := by
  unfold State.commitPending; split
  · rfl
  · split <;> rfl
@[simp] theorem State.commitPending_vbr (s : State) : (s.commitPending).vbr = s.vbr := by
  unfold State.commitPending; split
  · rfl
  · split <;> rfl
@[simp] theorem State.commitPending_gbr (s : State) : (s.commitPending).gbr = s.gbr := by
  unfold State.commitPending; split
  · rfl
  · split <;> rfl
@[simp] theorem State.commitPending_mach (s : State) : (s.commitPending).mach = s.mach := by
  unfold State.commitPending; split
  · rfl
  · split <;> rfl
@[simp] theorem State.commitPending_macl (s : State) : (s.commitPending).macl = s.macl := by
  unfold State.commitPending; split
  · rfl
  · split <;> rfl
@[simp] theorem State.commitPending_pr (s : State) : (s.commitPending).pr = s.pr := by
  unfold State.commitPending; split
  · rfl
  · split <;> rfl
@[simp] theorem State.commitPending_fpul (s : State) : (s.commitPending).fpul = s.fpul := by
  unfold State.commitPending; split
  · rfl
  · split <;> rfl
@[simp] theorem State.commitPending_endian (s : State) : (s.commitPending).endian = s.endian := by
  unfold State.commitPending; split
  · rfl
  · split <;> rfl
@[simp] theorem State.commitPending_dstate (s : State) : (s.commitPending).dstate = s.dstate := by
  unfold State.commitPending; split
  · rfl
  · split <;> rfl
@[simp] theorem State.commitPending_event (s : State) : (s.commitPending).event = s.event := by
  unfold State.commitPending; split
  · rfl
  · split <;> rfl
@[simp] theorem State.commitPending_refused (s : State) : (s.commitPending).refused = s.refused := by
  unfold State.commitPending; split
  · rfl
  · split <;> rfl
@[simp] theorem State.commitPending_mem (s : State) : (s.commitPending).mem = s.mem := by
  unfold State.commitPending; split
  · rfl
  · split <;> rfl
@[simp] theorem State.commitPending_params (s : State) : (s.commitPending).params = s.params := by
  unfold State.commitPending; split
  · rfl
  · split <;> rfl
@[simp] theorem State.commitPending_written (s : State) : (s.commitPending).written = s.written := by
  unfold State.commitPending; split
  · rfl
  · split <;> rfl
@[simp] theorem State.commitPending_draws (s : State) : (s.commitPending).draws = s.draws := by
  unfold State.commitPending; split
  · rfl
  · split <;> rfl

end Sys2Proof.Machine
end

