-- ==== Sys2Proof/Laws/Ops.lean ====
section
/-! SUPPORT. What each shared operation does, said once: registers read after they are written, how a result ends, and what a
checked access, a branch and a pair transfer can answer. -/

namespace Sys2Proof.Machine

/-! ### Registers read after they are written -/

@[simp] theorem State.g_63 (s : State) : s.g 63 = 0 := by simp [State.g, Vector.getD]

theorem getD_setIfInBounds {α : Type} {n : Nat} (v : Vector α n) (i j : Nat) (x d : α) :
    (v.setIfInBounds i x).getD j d = if j = i ∧ j < n then x else v.getD j d := by
  have e (w : Vector α n) : w.getD j d = w[j]?.getD d := by
    simp only [Vector.getD, Array.getD_eq_getD_getElem?, Vector.getElem?_toArray]
  rw [e, e, Vector.getElem?_setIfInBounds]
  by_cases h : j = i
  · subst h
    by_cases hj : j < n
    · simp [hj]
    · simp [hj]
  · simp [h, Ne.symm h]

theorem State.g_setG (s : State) (i j : MReg) (v : Quad) :
    (s.setG i v).g j = if j = i ∧ i ≠ 63 then v else s.g j := by
  have hj := j.isLt
  have h63 : j.toNat < 63 ↔ j ≠ 63 := by
    rw [Ne, ← BitVec.toNat_inj]; simp; omega
  simp only [State.g, State.setG, getD_setIfInBounds, BitVec.toNat_inj, h63]
  by_cases h : j = i
  · subst h; rfl
  · simp [h]

theorem creg_inj (m n : CReg) : creg m = creg n ↔ m = n := by
  simp only [creg, ← BitVec.toNat_inj, BitVec.toNat_setWidth]; omega

theorem creg_lt (n : CReg) : (creg n).toNat < 16 := by
  have := n.isLt
  simp only [creg, BitVec.toNat_setWidth]; omega

theorem creg_ne (n : CReg) (i : MReg) (h : 16 ≤ i.toNat) : creg n ≠ i := by
  intro he; have := creg_lt n; rw [he] at this; omega

@[simp] theorem low32_sext64 (v : Word) : low32 (sext64 v) = v := by
  simp only [low32, sext64]
  apply BitVec.eq_of_getLsbD_eq
  intro i hi
  simp [BitVec.getLsbD_signExtend, hi]
  omega

theorem State.r_setR (s : State) (n k : CReg) (v : Word) : (s.setR n v).r k = if k = n then v else s.r k := by
  have h63 : creg n ≠ 63 := creg_ne n 63 (by decide)
  simp only [State.r, State.setR, State.g_setG, creg_inj]
  by_cases h : k = n
  · rw [if_pos ⟨h, h63⟩, if_pos h, low32_sext64]
  · rw [if_neg fun hc => h hc.1, if_neg h]

/-- A compact register write replaces all 64 bits by the sign-extended value (10 R31). -/
theorem State.g_setR (s : State) (n : CReg) (v : Word) : (s.setR n v).g (creg n) = sext64 v := by
  rw [State.setR, State.g_setG, if_pos ⟨rfl, creg_ne n 63 (by decide)⟩]

theorem State.t_setTr (s : State) (a b : TReg) (v : Quad) : (s.setTr a v).t b = if b = a then v else s.t b := by
  have hb : b.toNat < 8 := b.isLt
  simp only [State.t, State.setTr, getD_setIfInBounds, BitVec.toNat_inj, hb, and_true]

theorem State.f_setF (s : State) (i j : MReg) (v : Word) : (s.setF i v).f j = if j = i then v else s.f j := by
  have hj : j.toNat < 64 := j.isLt
  simp only [State.f, State.setF, getD_setIfInBounds, BitVec.toNat_inj, hj, and_true]

theorem State.c_setC (s : State) (k j : MReg) (v : Quad) :
    (s.setC k v).c j = if j = k then (if k = 0 then zext64 (low32 v) else v) else s.c j := by
  have hj := j.isLt
  have hk := k.isLt
  have zj : j = 0 ↔ j.toNat = 0 := by rw [← BitVec.toNat_inj]; rfl
  have zk : k = 0 ↔ k.toNat = 0 := by rw [← BitVec.toNat_inj]; rfl
  by_cases h : j = k
  · subst h
    by_cases h0 : j = 0
    · simp only [State.setC, State.c, if_pos h0, if_true]
    · have : j.toNat - 1 < 63 := by omega
      simp only [State.setC, State.c, if_neg h0, if_true, getD_setIfInBounds, this, and_self]
  · by_cases h0 : k = 0
    · have hj0 : j ≠ 0 := fun he => h (he.trans h0.symm)
      simp only [State.setC, State.c, if_pos h0, if_neg h, if_neg hj0]
    · by_cases hj0 : j = 0
      · simp only [State.setC, State.c, if_neg h0, if_neg h, if_pos hj0]
      · have hne : j.toNat ≠ k.toNat := fun he => h (BitVec.toNat_inj.mp he)
        have : ¬(j.toNat - 1 = k.toNat - 1 ∧ j.toNat - 1 < 63) := by
          rw [zj] at hj0; rw [zk] at h0; omega
        simp only [State.setC, State.c, if_neg h0, if_neg h, if_neg hj0, getD_setIfInBounds, if_neg this]

theorem getLsbD_setBit (v : Word) (i k : Nat) (b : Bool) (hi : i < 32) :
    (setBit v i b).getLsbD k = if k = i then b else v.getLsbD k := by
  unfold setBit
  by_cases hk : k < 32
  · by_cases h : k = i
    · subst h; cases b <;> simp [hk]
    · by_cases h2 : k < i
      · cases b <;> simp [hk, h, h2]
      · have : k - i ≠ 0 := by omega
        cases b <;> simp [hk, h, h2, this]
  · have : k ≠ i := by omega
    simp [this, BitVec.getLsbD_of_ge _ _ (Nat.le_of_not_lt hk)]

@[simp] theorem State.flagT_setT (s : State) (b : Bool) : (s.setT b).flagT = b := by
  rw [State.flagT, State.setT, getLsbD_setBit _ _ _ _ (by decide), if_pos rfl]
@[simp] theorem State.flagS_setS (s : State) (b : Bool) : (s.setS b).flagS = b := by
  rw [State.flagS, State.setS, getLsbD_setBit _ _ _ _ (by decide), if_pos rfl]
@[simp] theorem State.flagQ_setQ (s : State) (b : Bool) : (s.setQ b).flagQ = b := by
  rw [State.flagQ, State.setQ, getLsbD_setBit _ _ _ _ (by decide), if_pos rfl]
@[simp] theorem State.flagM_setM (s : State) (b : Bool) : (s.setM b).flagM = b := by
  rw [State.flagM, State.setM, getLsbD_setBit _ _ _ _ (by decide), if_pos rfl]
@[simp] theorem State.flagT_setR (s : State) (n : CReg) (v : Word) : (s.setR n v).flagT = s.flagT := rfl
@[simp] theorem State.r_setT (s : State) (b : Bool) (n : CReg) : (s.setT b).r n = s.r n := rfl

/-! ### How a result ends -/

/-- A result is a next state of which `P` holds. -/
def Answers (P : State → Prop) (r : Result) : Prop := ∃ t, r = .next t ∧ P t

theorem Answers.imp {P Q : State → Prop} {r : Result} (h : ∀ t, P t → Q t) (hr : Answers P r) : Answers Q r :=
  let ⟨t, ht, hp⟩ := hr; ⟨t, ht, h t hp⟩

theorem State.complete_eq (s : State) : s.complete = .next { s with dstate := .fetching, event := .none } := rfl

theorem State.retire_eq (s : State) (n : Quad) :
    s.retire n = .next { s with pc := s.pc + n, dstate := .fetching, event := .none } := rfl

theorem State.fault_eq (s : State) (e : TrapReason) : s.fault e = .next { s with dstate := .faulted, event := e } := rfl

theorem State.delayedBranch_eq (s : State) (v : Quad) (b : Bool) :
    s.delayedBranch v b =
      .next { s with pending := some ⟨v, b⟩, pc := s.pc + 2, dstate := .fetching, event := .none } := rfl

/-- What a fault leaves: everything but the dispatch state, the report and the `refused` mark. -/
def SameButEvent (s t : State) : Prop :=
  { t with dstate := s.dstate, event := s.event, refused := s.refused } = s ∧ t.dstate = .faulted

theorem State.fault_same (s : State) (e : TrapReason) : Answers (SameButEvent s) (s.fault e) := ⟨_, rfl, rfl, rfl⟩

theorem State.refuse_same (s : State) (w : RefuseReason) : Answers (SameButEvent s) (s.refuse w) := ⟨_, rfl, rfl, rfl⟩

/-! ### Checked accesses -/

theorem Answers.checkRead {P : State → Prop} {s : State} {a : Quad} {n : Nat} {k : Result}
    (hf : ∀ x, s.readFault a n = some x → Answers P (s.memoryFault x))
    (hk : s.readFault a n = none → Answers P k) : Answers P (s.checkRead a n k) := by
  unfold State.checkRead; split
  · exact hf _ ‹_›
  · exact hk ‹_›

theorem Answers.checkWrite {P : State → Prop} {s : State} {a : Quad} {n : Nat} {k : Result}
    (hf : ∀ x, s.writeFault a n = some x → Answers P (s.memoryFault x))
    (hk : s.writeFault a n = none → Answers P k) : Answers P (s.checkWrite a n k) := by
  unfold State.checkWrite; split
  · exact hf _ ‹_›
  · exact hk ‹_›

theorem Answers.checkReads {P : State → Prop} {s : State} {as : List Quad} {k : Result}
    (hf : ∀ x, Answers P (s.memoryFault x)) (hk : Answers P k) : Answers P (s.checkReads as k) := by
  induction as with
  | nil => exact hk
  | cons a as ih => exact Answers.checkRead (fun x _ => hf x) fun _ => ih

theorem Answers.checkWrites {P : State → Prop} {s : State} {as : List Quad} {k : Result}
    (hf : ∀ x, Answers P (s.memoryFault x)) (hk : Answers P k) : Answers P (s.checkWrites as k) := by
  induction as with
  | nil => exact hk
  | cons a as ih => exact Answers.checkWrite (fun x _ => hf x) fun _ => ih

theorem Answers.require {P : State → Prop} {s : State} {b : Bool} {k : Result} (hf : Answers P s.invalid)
    (hk : b = true → Answers P k) : Answers P (s.require b k) := by
  unfold State.require; split
  · exact hk ‹_›
  · exact hf

theorem Answers.pairAligned {P : State → Prop} {s : State} {a : Quad} {k : Result}
    (hf : ∀ x, Answers P (s.memoryFault x)) (hk : Answers P k) : Answers P (s.pairAligned a k) := by
  unfold State.pairAligned
  split
  · split
    · exact hk
    · exact hf _
  · exact hk

theorem Answers.loadPair {P : State → Prop} {s : State} {a : Quad} {k : Quad → Result}
    (hf : ∀ x, Answers P (s.memoryFault x)) (hk : ∀ v, Answers P (k v)) : Answers P (s.loadPair a k) :=
  Answers.pairAligned hf (Answers.checkRead (fun x _ => hf x) fun _ => Answers.checkRead (fun x _ => hf x) fun _ => hk _)

theorem Answers.checkPair {P : State → Prop} {s : State} {a : Quad} {k : Result}
    (hf : ∀ x, Answers P (s.memoryFault x)) (hk : Answers P k) : Answers P (s.checkPair a k) :=
  Answers.pairAligned hf (Answers.checkWrite (fun x _ => hf x) fun _ => Answers.checkWrite (fun x _ => hf x) fun _ => hk)

theorem Answers.popWith {P : State → Prop} {s : State} {m : CReg} {f : State → Word → State}
    (hf : ∀ x, Answers P (s.memoryFault x)) (hk : ∀ v, Answers P ((f (s.setR m (s.r m + 4)) v).retire 2)) :
    Answers P (s.popWith m f) :=
  Answers.checkRead (fun x _ => hf x) fun _ => hk _

theorem Answers.push {P : State → Prop} {s : State} {n : CReg} {v : Word} (hf : ∀ x, Answers P (s.memoryFault x))
    (hk : Answers P (((s.write32 (sext64 (s.r n - 4)) v).setR n (s.r n - 4)).retire 2)) : Answers P (s.push n v) :=
  Answers.checkWrite (fun x _ => hf x) fun _ => hk

theorem Answers.modify8 {P : State → Prop} {s : State} {a : Quad} {f : Byte → Byte}
    (hf : ∀ x, Answers P (s.memoryFault x)) (hk : Answers P ((s.write8 a (f (s.read8 a))).retire 2)) :
    Answers P (s.modify8 a f) :=
  Answers.checkRead (fun x _ => hf x) fun _ => Answers.checkWrite (fun x _ => hf x) fun _ => hk

theorem Answers.branchTr {P : State → Prop} {s : State} {b : Bool} {a : TReg}
    (h1 : b = true → Answers P (s.setPCTagged (s.t a)).complete) (h2 : b = false → Answers P (s.retire 4)) :
    Answers P (s.branchTr b a) := by
  unfold State.branchTr; split
  · exact h1 ‹_›
  · rename_i h; exact h2 (by simpa using h)

/-! ### Accesses that are allowed -/

theorem State.checkRead_ok {s : State} {a : Quad} {n : Nat} {k : Result} (h : s.readFault a n = none) :
    s.checkRead a n k = k := by simp [State.checkRead, h]

theorem State.checkWrite_ok {s : State} {a : Quad} {n : Nat} {k : Result} (h : s.writeFault a n = none) :
    s.checkWrite a n k = k := by simp [State.checkWrite, h]

theorem State.checkRead_fault {s : State} {a x : Quad} {n : Nat} {k : Result} (h : s.readFault a n = some x) :
    s.checkRead a n k = s.memoryFault x := by simp [State.checkRead, h]

theorem State.checkWrite_fault {s : State} {a x : Quad} {n : Nat} {k : Result} (h : s.writeFault a n = some x) :
    s.checkWrite a n k = s.memoryFault x := by simp [State.checkWrite, h]

/-- A misaligned access faults with its own address under `MISALIGNED = fault` (20 R85). -/
theorem accessFault_misaligned (p : Params) (ok : Quad → Bool) (a : Quad) (n : Nat) (hp : p.misaligned = .fault)
    (h : a.toNat % n ≠ 0) : accessFault p ok a n = some a := by simp [accessFault, h, hp]

/-! ### Committing a branch -/

theorem State.commitPending_none (s : State) (h : s.pending = none) : s.commitPending = s := by
  simp [State.commitPending, h]

theorem State.commitPending_pending (s : State) : s.commitPending.pending = none := by
  unfold State.commitPending; split
  · assumption
  · split <;> rfl

end Sys2Proof.Machine
end

