-- ==== Sys2Proof/Laws/Frame.lean ====
section
/-! SUPPORT. The frame of each update of the state: from a state that keeps all but the parts of `p`, an update of a part of `p`
leads to another such state; and a result that retires such a state runs the instruction. -/

namespace Sys2Proof.Machine

theorem Keeps.refl (p : Parts) (s : State) : Keeps p s s := by constructor <;> intros <;> rfl

section
variable {p : Parts} {s t : State}

theorem Keeps.setG (h : Keeps p s t) {d : MReg} (v : Quad) (hd : d ∈ p.gr) : Keeps p s (t.setG d v) :=
  { h with
    gr := fun k hk => by
      rw [State.g_setG, if_neg fun he : k = d ∧ d ≠ 63 => hk (he.1 ▸ hd)]
      exact h.gr k hk }

theorem Keeps.setR (h : Keeps p s t) {n : CReg} (v : Word) (hd : creg n ∈ p.gr) : Keeps p s (t.setR n v) := h.setG _ hd

theorem Keeps.setF (h : Keeps p s t) {d : MReg} (v : Word) (hd : d ∈ p.fr) : Keeps p s (t.setF d v) :=
  { h with
    fr := fun k hk => by
      rw [State.f_setF, if_neg fun he : k = d => hk (he ▸ hd)]
      exact h.fr k hk }

theorem Keeps.setD (h : Keeps p s t) {d : MReg} (v : Quad) (hd : d ∈ p.fr) (hd' : d + 1 ∈ p.fr) : Keeps p s (t.setD d v) :=
  (h.setF _ hd).setF _ hd'

theorem Keeps.setTr (h : Keeps p s t) {a : TReg} (v : Quad) (hd : a ∈ p.tr) : Keeps p s (t.setTr a v) :=
  { h with
    tr := fun k hk => by
      rw [State.t_setTr, if_neg fun he : k = a => hk (he ▸ hd)]
      exact h.tr k hk }

theorem Keeps.sr_update (h : Keeps p s t) {v : Word} (hv : ∀ b, p.sr.getLsbD b = false → v.getLsbD b = t.sr.getLsbD b) :
    Keeps p s { t with sr := v } :=
  { h with
    sr := fun b hb => (hv b hb).trans (h.sr b hb)
    cr := fun k h0 hk => by
      have := h.cr k h0 hk
      simp only [State.c, if_neg h0] at this ⊢
      exact this }

theorem Keeps.setBit (h : Keeps p s t) (i : Nat) (b : Bool) (hi : i < 32) (hp : p.sr.getLsbD i = true) :
    Keeps p s { t with sr := setBit t.sr i b } :=
  h.sr_update fun k hk => by
    rw [getLsbD_setBit _ _ _ _ hi, if_neg]
    intro he; rw [he, hp] at hk; cases hk

theorem Keeps.setT (h : Keeps p s t) (b : Bool) (hp : p.sr.getLsbD 0 = true) : Keeps p s (t.setT b) :=
  h.setBit 0 b (by decide) hp

theorem Keeps.setS (h : Keeps p s t) (b : Bool) (hp : p.sr.getLsbD 1 = true) : Keeps p s (t.setS b) :=
  h.setBit 1 b (by decide) hp

theorem Keeps.setQ (h : Keeps p s t) (b : Bool) (hp : p.sr.getLsbD 8 = true) : Keeps p s (t.setQ b) :=
  h.setBit 8 b (by decide) hp

theorem Keeps.setM (h : Keeps p s t) (b : Bool) (hp : p.sr.getLsbD 9 = true) : Keeps p s (t.setM b) :=
  h.setBit 9 b (by decide) hp

theorem Keeps.setC (h : Keeps p s t) {k : MReg} (v : Quad) (hd : k ≠ 0) (hk : k ∈ p.cr) : Keeps p s (t.setC k v) := by
  have e : t.setC k v = { t with cr := t.cr.setIfInBounds (k.toNat - 1) v } := by rw [State.setC, if_neg hd]
  have c : ∀ j, j ≠ k → (t.setC k v).c j = t.c j := fun j hj => by rw [State.c_setC, if_neg hj]
  rw [e] at c ⊢
  exact { h with cr := fun j h0 hj => (c j fun he => hj (he ▸ hk)).trans (h.cr j h0 hj) }

theorem Keeps.setC_zero (h : Keeps p s t) (v : Quad) (hp : p.sr = 0xFFFFFFFF) : Keeps p s (t.setC 0 v) := by
  rw [show t.setC 0 v = { t with sr := low32 v } from rfl]
  exact h.sr_update fun b hb => by
    rw [hp] at hb
    have hge : 32 ≤ b := by
      by_contra hlt
      have : b < 32 := by omega
      interval_cases b <;> simp at hb
    rw [BitVec.getLsbD_of_ge _ _ hge, BitVec.getLsbD_of_ge _ _ hge]

theorem Keeps.setFpscr (h : Keeps p s t) (v : Word) (hp : p.fpscr = true) : Keeps p s (t.setFpscr v) :=
  { h with fpscr := fun he => by rw [hp] at he; cases he }

theorem Keeps.setVbr (h : Keeps p s t) (v : Word) (hp : p.vbr = true) : Keeps p s (t.setVbr v) :=
  { h with vbr := fun he => by rw [hp] at he; cases he }

theorem Keeps.setPC (h : Keeps p s t) (v : Quad) : Keeps p s (t.setPC v) := { h with }

theorem Keeps.setPCTagged (h : Keeps p s t) (v : Quad) (hp : p.ism = true) : Keeps p s (t.setPCTagged v) :=
  { h with ism := fun he => by rw [hp] at he; cases he }

theorem Keeps.end (h : Keeps p s t) (v : Quad) (d : DState) (e : TrapReason) :
    Keeps p s { t with pc := v, dstate := d, event := e } := { h with }

theorem Keeps.setGbr (h : Keeps p s t) (v : Word) (ha : t.params.storage = .aliased → 16 ∈ p.gr)
    (hs : t.params.storage = .separate → p.gbr = true) : Keeps p s (t.setGbr v) := by
  unfold State.setGbr
  cases hc : t.params.storage with
  | aliased => exact h.setG _ (ha hc)
  | separate => exact { h with gbr := fun he => by rw [hs hc] at he; cases he }

theorem Keeps.setMacl (h : Keeps p s t) (v : Word) (ha : t.params.storage = .aliased → 17 ∈ p.gr)
    (hs : t.params.storage = .separate → p.macl = true) : Keeps p s (t.setMacl v) := by
  unfold State.setMacl
  cases hc : t.params.storage with
  | aliased => exact h.setG _ (ha hc)
  | separate => exact { h with macl := fun he => by rw [hs hc] at he; cases he }

theorem Keeps.setMach (h : Keeps p s t) (v : Word) (ha : t.params.storage = .aliased → 17 ∈ p.gr)
    (hs : t.params.storage = .separate → p.mach = true) : Keeps p s (t.setMach v) := by
  unfold State.setMach
  cases hc : t.params.storage with
  | aliased => exact h.setG _ (ha hc)
  | separate => exact { h with mach := fun he => by rw [hs hc] at he; cases he }

theorem Keeps.setMac (h : Keeps p s t) (v : Quad) (ha : t.params.storage = .aliased → 17 ∈ p.gr)
    (hs : t.params.storage = .separate → p.mach = true ∧ p.macl = true) : Keeps p s (t.setMac v) :=
  (h.setMach _ ha fun he => (hs he).1).setMacl _ (by simpa using ha) (by simpa using fun he => (hs he).2)

theorem Keeps.setPr (h : Keeps p s t) (v : Word) (ha : t.params.storage = .aliased → 18 ∈ p.gr)
    (hs : t.params.storage = .separate → p.pr = true) : Keeps p s (t.setPr v) := by
  unfold State.setPr
  cases hc : t.params.storage with
  | aliased => exact h.setG _ (ha hc)
  | separate => exact { h with pr := fun he => by rw [hs hc] at he; cases he }

theorem Keeps.setFpul (h : Keeps p s t) (v : Word) (ha : t.params.storage = .aliased → 32 ∈ p.fr)
    (hs : t.params.storage = .separate → p.fpul = true) : Keeps p s (t.setFpul v) := by
  unfold State.setFpul
  cases hc : t.params.storage with
  | aliased => exact h.setF _ (ha hc)
  | separate => exact { h with fpul := fun he => by rw [hs hc] at he; cases he }

theorem mem_bytesFrom {a x : Quad} {n : Nat} : x ∈ bytesFrom a n ↔ inRange a n x := by
  simp only [bytesFrom, List.mem_map, List.mem_range, inRange]
  constructor
  · rintro ⟨i, hi, rfl⟩; exact ⟨i, hi, rfl⟩
  · rintro ⟨i, hi, rfl⟩; exact ⟨i, hi, rfl⟩

theorem Keeps.mem_update (h : Keeps p s t) {m : Memory} (hm : ∀ a, a ∉ p.mem → m.read8 a = t.read8 a) :
    Keeps p s { t with mem := m } :=
  { h with mem := fun a ha => (hm a ha).trans (h.mem a ha) }

theorem Keeps.write8 (h : Keeps p s t) {a : Quad} (b : Byte) (ha : ∀ x ∈ bytesFrom a 1, x ∈ p.mem) :
    Keeps p s (t.write8 a b) :=
  h.mem_update fun x hx => by
    rw [Memory.read8_write8, if_neg]; rfl
    rintro rfl; exact hx (ha _ (by simp [bytesFrom]))

theorem Keeps.write16 (h : Keeps p s t) {a : Quad} (v : Half) (ha : ∀ x ∈ bytesFrom a 2, x ∈ p.mem) :
    Keeps p s (t.write16 a v) :=
  h.mem_update fun x hx => Memory.read8_write16 _ _ _ _ _ fun hr => hx (ha x (mem_bytesFrom.2 hr))

theorem Keeps.write32 (h : Keeps p s t) {a : Quad} (v : Word) (ha : ∀ x ∈ bytesFrom a 4, x ∈ p.mem) :
    Keeps p s (t.write32 a v) :=
  h.mem_update fun x hx => Memory.read8_write32 _ _ _ _ _ fun hr => hx (ha x (mem_bytesFrom.2 hr))

theorem Keeps.write64 (h : Keeps p s t) {a : Quad} (v : Quad) (ha : ∀ x ∈ bytesFrom a 8, x ∈ p.mem) :
    Keeps p s (t.write64 a v) :=
  h.mem_update fun x hx => Memory.read8_write64 _ _ _ _ _ fun hr => hx (ha x (mem_bytesFrom.2 hr))

end

/-! ### From a state that keeps the rest to a completed instruction -/

/-- The state after a normal completion at the next PC `pc`. -/
def State.finish (u : State) (pc : Quad) : State := { u with pc := pc, dstate := .fetching, event := .none }

theorem runs_of {i : Instr} {s u : State} {next : Quad} {p : Parts} {ok : State → Prop} (he : exec i s = .next (u.finish next))
    (hk : Keeps p s u) (hok : ok (u.finish next)) : Runs i s next p ok :=
  ⟨_, he, rfl, rfl, rfl, hk.end _ _ _, hok⟩

/-- An instruction that ends by `u.retire size`, where `u` keeps all but the parts of `p`. -/
theorem runs_retire {i : Instr} {s u : State} {size : Quad} {p : Parts} {ok : State → Prop} (he : exec i s = u.retire size)
    (hpc : u.pc = s.pc) (hk : Keeps p s u) (hok : ok (u.finish (s.pc + size))) : Runs i s (s.pc + size) p ok :=
  runs_of (by rw [he, ← hpc]; rfl) hk hok

theorem putsR_of {i : Instr} {s : State} {n : CReg} {v : Word} (he : exec i s = s.putR n v) : PutsR i s n v :=
  runs_retire he rfl ((Keeps.refl _ s).setR _ (by simp)) (State.g_setR s n v)

theorem putsT_of {i : Instr} {s : State} {b : Bool} (he : exec i s = s.putT b) : PutsT i s b :=
  runs_retire he rfl ((Keeps.refl _ s).setT _ rfl) (State.flagT_setT s b)

theorem putsRT_of {i : Instr} {s : State} {n : CReg} {v : Word} {b : Bool} (he : exec i s = s.putRT n v b) :
    PutsRT i s n v b :=
  runs_retire he rfl (((Keeps.refl _ s).setR _ (by simp)).setT _ (by simp)) ⟨State.g_setR s n v, State.flagT_setT _ b⟩

theorem putsG_of {i : Instr} {s : State} {d : MReg} {v : Quad} (he : exec i s = s.putG d v) : PutsG i s d v :=
  runs_retire he rfl ((Keeps.refl _ s).setG _ (by simp)) (by
    show (s.setG d v).g d = _
    rw [State.g_setG]
    by_cases h : d = 63
    · subst h; rw [if_neg (by simp), if_pos rfl, State.g_63]
    · rw [if_pos ⟨rfl, h⟩, if_neg h])

theorem putsF_of {i : Instr} {s : State} {size : Quad} {d : MReg} {v : Word} (he : exec i s = (s.setF d v).retire size) :
    PutsF i s size d v :=
  runs_retire he rfl ((Keeps.refl _ s).setF _ (by simp)) (by
    show (s.setF d v).f d = v
    rw [State.f_setF, if_pos rfl])

theorem succ_ne (d : MReg) : d ≠ d + 1 := by bv_omega

theorem putsD_of {i : Instr} {s : State} {size : Quad} {d : MReg} {v : Quad} (he : exec i s = (s.setD d v).retire size) :
    PutsD i s size d v :=
  runs_retire he rfl ((Keeps.refl _ s).setD _ (by simp) (by simp)) (by
    show (s.setD d v).f d = high32 v ∧ (s.setD d v).f (d + 1) = low32 v
    simp only [State.setD, State.f_setF, if_neg (succ_ne d), if_true, and_self])

theorem onlyAdvances_of {i : Instr} {s : State} {size : Quad} (he : exec i s = s.retire size) : OnlyAdvances i s size :=
  runs_retire he rfl (Keeps.refl _ s) trivial

end Sys2Proof.Machine
end

