-- ==== Sys2Proof/Laws/Unwritten.lean ====
section
/-! SUPPORT. The written masks of 70 R902: a mask read after it is marked, what the record of a step changes, and the step under each
`RESET_STATE`. -/

namespace Sys2Proof.Machine

/-! ### Masks -/

theorem getLsbD_getD_or {k n : Nat} (v : Vector (BitVec k) n) (i j : Nat) (m d : BitVec k) {b : Nat}
    (h : (v.getD i d).getLsbD b = true) : ((v.setIfInBounds j (v.getD j 0 ||| m)).getD i d).getLsbD b = true := by
  rw [getD_setIfInBounds]
  split
  · rename_i hij
    obtain ⟨rfl, hi⟩ := hij
    have hd : v.getD i d = v.getD i 0 := by simp [Vector.getD, hi]
    rw [BitVec.getLsbD_or, ← hd, h, Bool.true_or]
  · exact h

/-- A mark makes no written bit unwritten (70 R902). -/
theorem Written.get_mark (w : Written) (x : StoreBits) (r : Store) {b : Nat} (h : (w.get r).getLsbD b = true) :
    ((w.mark x).get r).getLsbD b = true := by
  obtain ⟨q, m⟩ := x
  cases q <;> cases r <;> simp only [Written.mark, Written.get, zext64, BitVec.getLsbD_setWidth, BitVec.getLsbD_or,
    Bool.and_eq_true, Bool.or_eq_true] at h ⊢ <;>
    first
    | with_reducible exact h
    | with_reducible exact getLsbD_getD_or _ _ _ _ _ h
    | with_reducible exact ⟨h.1, getLsbD_getD_or _ _ _ _ _ h.2⟩
    | with_reducible exact .inl h
    | with_reducible exact ⟨h.1, .inl h.2⟩

/-- The marks of an instruction make no written bit unwritten (70 R902). -/
theorem Written.get_markAll (w : Written) (l : List StoreBits) (r : Store) {b : Nat} (h : (w.get r).getLsbD b = true) :
    ((w.markAll l).get r).getLsbD b = true := by
  induction l generalizing w with
  | nil => exact h
  | cons x l ih => exact ih (w.mark x) (w.get_mark x r h)

/-! ### The record of a step changes the masks only -/

@[simp] theorem State.recordWrites_gr (s t : State) (i : Instr) : (s.recordWrites i t).gr = t.gr := by
  unfold State.recordWrites; split <;> rfl

@[simp] theorem State.recordWrites_sr (s t : State) (i : Instr) : (s.recordWrites i t).sr = t.sr := by
  unfold State.recordWrites; split <;> rfl

@[simp] theorem State.recordWrites_cr (s t : State) (i : Instr) : (s.recordWrites i t).cr = t.cr := by
  unfold State.recordWrites; split <;> rfl

@[simp] theorem State.recordWrites_tr (s t : State) (i : Instr) : (s.recordWrites i t).tr = t.tr := by
  unfold State.recordWrites; split <;> rfl

@[simp] theorem State.recordWrites_fr (s t : State) (i : Instr) : (s.recordWrites i t).fr = t.fr := by
  unfold State.recordWrites; split <;> rfl

@[simp] theorem State.recordWrites_fpscr (s t : State) (i : Instr) : (s.recordWrites i t).fpscr = t.fpscr := by
  unfold State.recordWrites; split <;> rfl

@[simp] theorem State.recordWrites_vbr (s t : State) (i : Instr) : (s.recordWrites i t).vbr = t.vbr := by
  unfold State.recordWrites; split <;> rfl

@[simp] theorem State.recordWrites_gbr (s t : State) (i : Instr) : (s.recordWrites i t).gbr = t.gbr := by
  unfold State.recordWrites; split <;> rfl

@[simp] theorem State.recordWrites_mach (s t : State) (i : Instr) : (s.recordWrites i t).mach = t.mach := by
  unfold State.recordWrites; split <;> rfl

@[simp] theorem State.recordWrites_macl (s t : State) (i : Instr) : (s.recordWrites i t).macl = t.macl := by
  unfold State.recordWrites; split <;> rfl

@[simp] theorem State.recordWrites_pr (s t : State) (i : Instr) : (s.recordWrites i t).pr = t.pr := by
  unfold State.recordWrites; split <;> rfl

@[simp] theorem State.recordWrites_fpul (s t : State) (i : Instr) : (s.recordWrites i t).fpul = t.fpul := by
  unfold State.recordWrites; split <;> rfl

@[simp] theorem State.recordWrites_pc (s t : State) (i : Instr) : (s.recordWrites i t).pc = t.pc := by
  unfold State.recordWrites; split <;> rfl

@[simp] theorem State.recordWrites_ism (s t : State) (i : Instr) : (s.recordWrites i t).ism = t.ism := by
  unfold State.recordWrites; split <;> rfl

@[simp] theorem State.recordWrites_endian (s t : State) (i : Instr) : (s.recordWrites i t).endian = t.endian := by
  unfold State.recordWrites; split <;> rfl

@[simp] theorem State.recordWrites_pending (s t : State) (i : Instr) : (s.recordWrites i t).pending = t.pending := by
  unfold State.recordWrites; split <;> rfl

@[simp] theorem State.recordWrites_dstate (s t : State) (i : Instr) : (s.recordWrites i t).dstate = t.dstate := by
  unfold State.recordWrites; split <;> rfl

@[simp] theorem State.recordWrites_event (s t : State) (i : Instr) : (s.recordWrites i t).event = t.event := by
  unfold State.recordWrites; split <;> rfl

@[simp] theorem State.recordWrites_refused (s t : State) (i : Instr) : (s.recordWrites i t).refused = t.refused := by
  unfold State.recordWrites; split <;> rfl

@[simp] theorem State.recordWrites_mem (s t : State) (i : Instr) : (s.recordWrites i t).mem = t.mem := by
  unfold State.recordWrites; split <;> rfl

@[simp] theorem State.recordWrites_params (s t : State) (i : Instr) : (s.recordWrites i t).params = t.params := by
  unfold State.recordWrites; split <;> rfl

@[simp] theorem State.recordWrites_draws (s t : State) (i : Instr) : (s.recordWrites i t).draws = t.draws := by
  unfold State.recordWrites; split <;> rfl

/-! ### Under `RESET_STATE = zero` the masks have no effect -/

theorem State.tracks_zero {s : State} (h : s.params.resetState = .zero) : s.tracks = false := by simp [State.tracks, h]

theorem State.entryUnwritten_zero {s : State} (h : s.params.resetState = .zero) : s.entryUnwritten = false := by
  simp [State.entryUnwritten, State.tracks_zero h]

theorem State.readsUnwritten_zero {s : State} (h : s.params.resetState = .zero) (i : Instr) : s.readsUnwritten i = false := by
  simp [State.readsUnwritten, State.tracks_zero h]

theorem State.recordWrites_zero {s : State} (h : s.params.resetState = .zero) (i : Instr) (t : State) :
    s.recordWrites i t = t := by simp [State.recordWrites, State.tracks_zero h]

theorem State.record_zero {s : State} (h : s.params.resetState = .zero) (i : Instr) (r : Result) : s.record i r = r := by
  cases r <;> simp [State.record, State.recordWrites_zero h]

/-! ### Under `RESET_STATE = unwritten` -/

theorem State.tracks_unwritten {s : State} (h : s.params.resetState = .unwritten) : s.tracks = true := by
  simp [State.tracks, h]

theorem State.recordWrites_unwritten {s : State} (h : s.params.resetState = .unwritten) (i : Instr) (t : State) :
    s.recordWrites i t = { t with written := t.written.markAll (access i s).writes } := by
  simp [State.recordWrites, State.tracks_unwritten h]

/-- The record of an instruction makes no written bit unwritten. -/
theorem State.written_recordWrites (s t : State) (i : Instr) (r : Store) {b : Nat} (h : (t.written.get r).getLsbD b = true) :
    ((s.recordWrites i t).written.get r).getLsbD b = true := by
  unfold State.recordWrites
  split
  · exact t.written.get_markAll _ r h
  · exact h

/-! ### One step -/

/-- The step of decoded code that no check stops: `exec`, the record, and a pending branch. -/
theorem step_decoded {s : State} {c : Code} {i : Instr} (he : s.entryUnwritten = false) (hf : s.fetch = .ok c)
    (hd : decodeCode s.params.ext c = .ok i) (hs : (s.pending.isSome && slotIllegal i) = false)
    (hr : s.readsUnwritten i = false) :
    step s = settle s.pending.isSome (s.record i (exec i { s with dstate := .executing })) := by
  simp only [step, he, hf, hd, hs, hr, Bool.false_eq_true, if_false]

/-- A step with PC or ISM unwritten is refused, with `pc` reported as 0. -/
theorem step_entryUnwritten {s : State} (h : s.entryUnwritten = true) : step s = s.refuseEntry := by
  simp only [step, h, if_true]

/-- A step whose instruction reads an unwritten bit is refused. -/
theorem step_readsUnwritten {s : State} {c : Code} {i : Instr} (he : s.entryUnwritten = false) (hf : s.fetch = .ok c)
    (hd : decodeCode s.params.ext c = .ok i) (hs : (s.pending.isSome && slotIllegal i) = false)
    (hr : s.readsUnwritten i = true) : step s = s.refuse .unwritten := by
  simp only [step, he, hf, hd, hs, hr, Bool.false_eq_true, if_false, if_true]

end Sys2Proof.Machine
end

