-- ==== Sys2Proof/Tests/Slice0.lean ====
section
/-! SUPPORT. The model's own tests: each check of `Instr.wf` refuses an ill-formed term; a word of every row of
spec/opcode_table.json, written from its pattern, decodes to its constructor; vectors of spec 95, one step each; and
for each obligation with hypotheses, a state and operands that meet them. -/

namespace Sys2Proof.Machine

set_option Elab.async false

/-- The next state of a result, if it is one. -/
def nextOf : Result → Option State
  | .next t => some t
  | _ => none

/-! ### Well-formed instructions: one ill-formed term for each check -/

theorem test_wf_same_field : (Instr.mFabsS 1 2 3).wf = false ∧ (Instr.mFabsS 1 1 3).wf = true := by decide
theorem test_wf_even_m : (Instr.mFaddD 1 2 4).wf = false ∧ (Instr.mFaddD 2 2 4).wf = true := by decide
theorem test_wf_even_n : (Instr.mFaddD 2 3 4).wf = false := by decide
theorem test_wf_even_d : (Instr.mFaddD 2 4 5).wf = false := by decide
theorem test_wf_multiple_of_4 : (Instr.mFiprS 2 4 8).wf = false ∧ (Instr.mFiprS 4 6 8).wf = false := by decide
theorem test_wf_multiple_of_4_dest : (Instr.mFtrvS 16 4 6).wf = false ∧ (Instr.mFtrvS 16 4 8).wf = true := by decide
theorem test_wf_multiple_of_16 : (Instr.mFtrvS 8 4 8).wf = false := by decide
theorem test_wf_disp12 : (Instr.cMovLLoadDisp12 1 0x800 2).wf = false ∧ (Instr.cMovLLoadDisp12 1 0x7FF 2).wf = true := by
  decide

/-! ### Decoding: for every row, a word written from its pattern -/

/-- Whether each word, with its number of bits, decodes to the instruction beside it. -/
noncomputable def decodesAll (l : List (Nat × Nat × Instr)) : Bool := l.all fun r => decodeTableWord r.1 r.2.1 == some r.2.2

theorem test_decode_compact_alu_1 : decodesAll [
    (16, 0x3D7C, .cAdd 7 13), (16, 0x7D8F, .cAddImm 143 13), (16, 0x3CEE, .cAddc 14 12), (16, 0x377F, .cAddv 7 7),
    (16, 0x8882, .cCmpEqImm 130), (16, 0x39D0, .cCmpEq 13 9), (16, 0x3232, .cCmpHs 3 2), (16, 0x38C3, .cCmpGe 12 8),
    (16, 0x3A76, .cCmpHi 7 10), (16, 0x3C97, .cCmpGt 9 12), (16, 0x4211, .cCmpPz 2), (16, 0x4115, .cCmpPl 1),
    (16, 0x247C, .cCmpStr 7 4), (16, 0x2127, .cDiv0s 2 1), (16, 0x0019, .cDiv0u), (16, 0x3C84, .cDiv1 8 12),
    (16, 0x4E94, .cDivu 14), (16, 0x3ABD, .cDmulsL 11 10), (16, 0x3905, .cDmuluL 0 9), (16, 0x4F10, .cDt 15),
    (16, 0x6F6E, .cExtsB 6 15), (16, 0x6A7F, .cExtsW 7 10), (16, 0x69BC, .cExtuB 11 9), (16, 0x62AD, .cExtuW 10 2),
    (16, 0x009F, .cMacL 9 0), (16, 0x48DF, .cMacW 13 8), (16, 0x0017, .cMulL 1 0), (16, 0x4080, .cMulr 0),
    (16, 0x2E3F, .cMulsW 3 14), (16, 0x293E, .cMuluW 3 9), (16, 0x6C0B, .cNeg 0 12), (16, 0x657A, .cNegc 7 5),
    (16, 0x3978, .cSub 7 9), (16, 0x33DA, .cSubc 13 3), (16, 0x338B, .cSubv 8 3), (16, 0x24A9, .cAnd 10 4),
    (16, 0xC97F, .cAndImm 127), (16, 0xCD01, .cAndB 1), (16, 0x61A7, .cNot 10 1), (16, 0x2A7B, .cOr 7 10)] = true := by decide +kernel

theorem test_decode_compact_alu_2 : decodesAll [
    (16, 0xCB47, .cOrImm 71), (16, 0xCF68, .cOrB 104), (16, 0x4F1B, .cTasB 15), (16, 0x2F88, .cTst 8 15),
    (16, 0xC8EE, .cTstImm 238), (16, 0xCCD7, .cTstB 215), (16, 0x2B1A, .cXor 1 11), (16, 0xCA41, .cXorImm 65),
    (16, 0xCE50, .cXorB 80), (16, 0x4C04, .cRotl 12), (16, 0x4305, .cRotr 3), (16, 0x4824, .cRotcl 8),
    (16, 0x4425, .cRotcr 4), (16, 0x410C, .cShad 0 1), (16, 0x4920, .cShal 9), (16, 0x4C21, .cShar 12),
    (16, 0x461D, .cShld 1 6), (16, 0x4100, .cShll 1), (16, 0x4D08, .cShll2 13), (16, 0x4418, .cShll8 4),
    (16, 0x4628, .cShll16 6), (16, 0x4101, .cShlr 1), (16, 0x4F09, .cShlr2 15), (16, 0x4019, .cShlr8 0),
    (16, 0x4D29, .cShlr16 13)] = true := by decide +kernel

theorem test_decode_compact_data_1 : decodesAll [
    (16, 0x60A3, .cMov 10 0), (16, 0xE336, .cMovImm 54 3), (32, 0x0EE0D52B, .cMovi20 972075 14),
    (32, 0x0701D651, .cMovi20s 54865 7), (16, 0xC760, .cMova 96), (16, 0x9BFA, .cMovWLoadPc 250 11),
    (16, 0xD665, .cMovLLoadPc 101 6), (16, 0x6910, .cMovBLoad 1 9), (16, 0x63A1, .cMovWLoad 10 3),
    (16, 0x6AC2, .cMovLLoad 12 10), (16, 0x6544, .cMovBLoadInc 4 5), (16, 0x6415, .cMovWLoadInc 1 4),
    (16, 0x6056, .cMovLLoadInc 5 0), (16, 0x06FC, .cMovBLoadIdx 15 6), (16, 0x0ECD, .cMovWLoadIdx 12 14),
    (16, 0x021E, .cMovLLoadIdx 1 2), (16, 0x843B, .cMovBLoadDisp 3 11), (16, 0x8510, .cMovWLoadDisp 1 0),
    (16, 0x5C07, .cMovLLoadDisp 0 7 12), (32, 0x3A7162D7, .cMovLLoadDisp12 7 727 10),
    (16, 0xC48F, .cMovBLoadGbr 143), (16, 0xC530, .cMovWLoadGbr 48), (16, 0xC672, .cMovLLoadGbr 114),
    (16, 0x48A9, .cMovuaL 8), (16, 0x43E9, .cMovuaLInc 3), (16, 0x2BF0, .cMovBStore 15 11),
    (16, 0x22C1, .cMovWStore 12 2), (16, 0x2A62, .cMovLStore 6 10), (16, 0x2164, .cMovBStoreDec 6 1),
    (16, 0x2665, .cMovWStoreDec 6 6), (16, 0x23F6, .cMovLStoreDec 15 3), (16, 0x0404, .cMovBStoreIdx 0 4),
    (16, 0x0FD5, .cMovWStoreIdx 13 15), (16, 0x0CF6, .cMovLStoreIdx 15 12), (16, 0x8049, .cMovBStoreDisp 9 4),
    (16, 0x81EF, .cMovWStoreDisp 15 14), (16, 0x1203, .cMovLStoreDisp 0 3 2),
    (32, 0x3D6127EE, .cMovLStoreDisp12 6 2030 13), (16, 0xC09A, .cMovBStoreGbr 154),
    (16, 0xC1A4, .cMovWStoreGbr 164)] = true := by decide +kernel

theorem test_decode_compact_data_2 : decodesAll [
    (16, 0xC293, .cMovLStoreGbr 147), (16, 0x01C3, .cMovcaL 1), (16, 0x0073, .cMovcoL 0), (16, 0x0F63, .cMovliL 15),
    (16, 0x0229, .cMovt 2), (16, 0x6738, .cSwapB 3 7), (16, 0x6049, .cSwapW 4 0), (16, 0x29CD, .cXtrct 12 9)] = true := by decide +kernel

theorem test_decode_compact_system_1 : decodesAll [
    (16, 0x8B54, .cBf 84), (16, 0x8FD4, .cBfS 212), (16, 0x894B, .cBt 75), (16, 0x8D62, .cBtS 98),
    (16, 0xA12C, .cBra 300), (16, 0x0123, .cBraf 1), (16, 0xB171, .cBsr 369), (16, 0x0303, .cBsrf 3),
    (16, 0x492B, .cJmp 9), (16, 0x4A0B, .cJsr 10), (16, 0x000B, .cRts), (16, 0x0028, .cClrmac), (16, 0x0048, .cClrs),
    (16, 0x0008, .cClrt), (16, 0x0058, .cSets), (16, 0x0018, .cSett), (16, 0x0009, .cNop), (16, 0x430E, .cLdcSr 3),
    (16, 0x401E, .cLdcGbr 0), (16, 0x492E, .cLdcVbr 9), (16, 0x4517, .cLdcLGbr 5), (16, 0x4527, .cLdcLVbr 5),
    (16, 0x490A, .cLdsMach 9), (16, 0x471A, .cLdsMacl 7), (16, 0x422A, .cLdsPr 2), (16, 0x4F06, .cLdsLMach 15),
    (16, 0x4916, .cLdsLMacl 9), (16, 0x4726, .cLdsLPr 7), (16, 0x0D12, .cStcGbr 13), (16, 0x0922, .cStcVbr 9),
    (16, 0x4213, .cStcLGbr 2), (16, 0x4D23, .cStcLVbr 13), (16, 0x060A, .cStsMach 6), (16, 0x021A, .cStsMacl 2),
    (16, 0x0A2A, .cStsPr 10), (16, 0x4202, .cStsLMach 2), (16, 0x4412, .cStsLMacl 4), (16, 0x4E22, .cStsLPr 14),
    (16, 0xC33A, .cTrapa 58), (16, 0x003B, .cBrk)] = true := by decide +kernel

theorem test_decode_compact_system_2 : decodesAll [
    (16, 0x0D83, .cPref 13), (16, 0x0993, .cOcbi 9), (16, 0x03A3, .cOcbp 3), (16, 0x0BB3, .cOcbwb 11)] = true := by decide +kernel

theorem test_decode_compact_fpu : decodesAll [
    (16, 0xF35D, .cFabs 3), (16, 0xF24D, .cFneg 2), (16, 0xFAB0, .cFadd 11 10), (16, 0xF8F1, .cFsub 15 8),
    (16, 0xFA32, .cFmul 3 10), (16, 0xF6F3, .cFdiv 15 6), (16, 0xFE6D, .cFsqrt 14), (16, 0xF974, .cFcmpEq 7 9),
    (16, 0xF615, .cFcmpGt 1 6), (16, 0xF10E, .cFmac 0 1), (16, 0xF18D, .cFldi0 1), (16, 0xF09D, .cFldi1 0),
    (16, 0xF81D, .cFlds 8), (16, 0xFF0D, .cFsts 15), (16, 0xF42D, .cFloat 4), (16, 0xF33D, .cFtrc 3),
    (16, 0xFAAD, .cFcnvsd 5), (16, 0xFABD, .cFcnvds 5), (16, 0xF5ED, .cFipr 1 1), (16, 0xF5FD, .cFtrv 1),
    (16, 0xFBFD, .cFrchg), (16, 0xF3FD, .cFschg), (16, 0xFEDC, .cFmov 13 14), (16, 0xF798, .cFmovLoad 9 7),
    (16, 0xF849, .cFmovLoadInc 4 8), (16, 0xFE26, .cFmovLoadIdx 2 14), (32, 0x30B177A2, .cFmovLoadDisp12 11 1954 0),
    (16, 0xF32A, .cFmovStore 2 3), (16, 0xF87B, .cFmovStoreDec 7 8), (16, 0xFDA7, .cFmovStoreIdx 10 13),
    (32, 0x318131D4, .cFmovStoreDisp12 4 468 1), (16, 0x446A, .cLdsFpscr 4), (16, 0x435A, .cLdsFpul 3),
    (16, 0x4E66, .cLdsLFpscr 14), (16, 0x4E56, .cLdsLFpul 14), (16, 0x036A, .cStsFpscr 3),
    (16, 0x0B5A, .cStsFpul 11), (16, 0x4062, .cStsLFpscr 0), (16, 0x4152, .cStsLFpul 1)] = true := by decide +kernel

theorem test_decode_media_alu : decodesAll [
    (32, 0x011969C0, .mAdd 17 26 28), (32, 0x00F80C20, .mAddL 15 3 2), (32, 0xD0B48170, .mAddi 11 288 23),
    (32, 0xD61927E0, .mAddiL 33 585 62), (32, 0x008C1570, .mAddzL 8 5 23), (32, 0x008BE5C0, .mSub 8 57 28),
    (32, 0x03EA56A0, .mSubL 62 21 42), (32, 0x06EBB210, .mAnd 46 44 33), (32, 0x065FF080, .mAndc 37 60 8),
    (32, 0xDA508FB0, .mAndi 37 35 59), (32, 0x04197BA0, .mOr 1 30 58), (32, 0xDD6B3530, .mOri 22 717 19),
    (32, 0x07DD0810, .mXor 61 2 1), (32, 0xC66DA040, .mXori 38 40 4), (32, 0x01E112E0, .mCmpeq 30 4 46),
    (32, 0x01335080, .mCmpgt 19 20 8), (32, 0x03F71040, .mCmpgtu 63 4 4), (32, 0x21C18970, .mCmveq 28 34 23),
    (32, 0x22F50B90, .mCmvne 47 2 57), (32, 0x03BDFEF0, .mNsb 59 47), (32, 0x02FFFED0, .mByterev 47 45),
    (32, 0x008ECBD0, .mMuluL 8 50 61), (32, 0x07AE5560, .mMulsL 58 21 22), (32, 0x0451ADE0, .mShlld 5 43 30),
    (32, 0x07901370, .mShlldL 57 4 55), (32, 0x07636BC0, .mShlrd 54 26 60), (32, 0x07220770, .mShlrdL 50 1 55),
    (32, 0x05F79000, .mShard 31 36 0), (32, 0x0676A980, .mShardL 39 42 24), (32, 0xC5819400, .mShlli 24 37 0),
    (32, 0xC6601050, .mShlliL 38 4 5), (32, 0xC453A070, .mShlri 5 40 7), (32, 0xC7F24380, .mShlriL 63 16 56),
    (32, 0xC5A7B950, .mShari 26 46 21), (32, 0xC586EEF0, .mShariL 24 59 47), (32, 0xCEC6D250, .mMovi 45492 37),
    (32, 0xC9D4BDC0, .mShori 29999 28)] = true := by decide +kernel

theorem test_decode_media_packed_1 : decodesAll [
    (32, 0x09D1D620, .mMaddW 29 53 34), (32, 0x08528700, .mMaddL 5 33 48), (32, 0x0A040530, .mMaddsUb 32 1 19),
    (32, 0x0A6515E0, .mMaddsW 38 5 30), (32, 0x08163BD0, .mMaddsL 1 14 61), (32, 0x0AC91DF0, .mMsubW 44 7 31),
    (32, 0x0B1A9EA0, .mMsubL 49 39 42), (32, 0x0BAC7D00, .mMsubsUb 58 31 16), (32, 0x0B9D0170, .mMsubsW 57 0 23),
    (32, 0x093E26B0, .mMsubsL 19 9 43), (32, 0x2A79FCC0, .mMabsW 39 12), (32, 0x2A1AFCA0, .mMabsL 33 10),
    (32, 0x2B00E550, .mMcmpeqB 48 57 21), (32, 0x2AA1EDC0, .mMcmpeqW 42 59 28), (32, 0x29F2E4F0, .mMcmpeqL 31 57 15),
    (32, 0x294466A0, .mMcmpgtUb 20 25 42), (32, 0x29053280, .mMcmpgtW 16 12 40),
    (32, 0x29B6CF30, .mMcmpgtL 27 51 51), (32, 0x4B03E8C0, .mMcmv 48 58 12), (32, 0x2F8D3580, .mMcnvsLw 56 13 24),
    (32, 0x2CE897A0, .mMcnvsWb 14 37 58), (32, 0x2D4C3480, .mMcnvsWub 20 13 8), (32, 0x28877D60, .mMextr1 8 31 22),
    (32, 0x2B5BE760, .mMextr2 53 57 54), (32, 0x282FB440, .mMextr3 2 45 4), (32, 0x2FC3F910, .mMextr4 60 62 17),
    (32, 0x2F472870, .mMextr5 52 10 7), (32, 0x2DCB7910, .mMextr6 28 30 17), (32, 0x2FBF3750, .mMextr7 59 13 53),
    (32, 0x49A16280, .mMmacfxWl 26 24 40), (32, 0x4A157EB0, .mMmacnfxWl 33 31 43),
    (32, 0x4D41B750, .mMmulW 20 45 53), (32, 0x4F52FA70, .mMmulL 53 62 39), (32, 0x4DC55040, .mMmulfxW 28 20 4),
    (32, 0x4F560910, .mMmulfxL 53 2 17), (32, 0x4F799820, .mMmulfxrpW 55 38 2),
    (32, 0x4EBEB510, .mMmulhiWl 43 45 17), (32, 0x4E4A5930, .mMmulloWl 36 22 19),
    (32, 0x4A99CA40, .mMmulsumWq 41 50 36), (32, 0x281DA480, .mMpermW 1 41 8)] = true := by decide +kernel

theorem test_decode_media_packed_2 : decodesAll [
    (32, 0x499074C0, .mMsadUbq 25 29 12), (32, 0x0C15C750, .mMshaldsW 1 49 53),
    (32, 0x0D163F10, .mMshaldsL 17 15 49), (32, 0x0C99C830, .mMshardW 9 50 3), (32, 0x0FEAA070, .mMshardL 62 40 7),
    (32, 0x0DCB1A80, .mMshardsQ 28 6 40), (32, 0x0E21A680, .mMshlldW 34 41 40), (32, 0x0F325FD0, .mMshlldL 51 23 61),
    (32, 0x0C4DACC0, .mMshlrdW 4 43 12), (32, 0x0CCED1E0, .mMshlrdL 12 52 30), (32, 0x2D002ED0, .mMshfloB 16 11 45),
    (32, 0x2C01C1E0, .mMshfloW 0 48 30), (32, 0x2E22B420, .mMshfloL 34 45 2), (32, 0x2CB43910, .mMshfhiB 11 14 17),
    (32, 0x2F155A20, .mMshfhiW 49 22 34), (32, 0x2EC6F210, .mMshfhiL 44 60 33)] = true := by decide +kernel

theorem test_decode_media_mem : decodesAll [
    (32, 0x8209D7F0, .mLdB 32 629 63), (32, 0x87028D90, .mLdW 48 163 25), (32, 0x8B6CAAC0, .mLdL 54 810 44),
    (32, 0x8F939450, .mLdQ 57 229 5), (32, 0x91AEEB90, .mLdUb 26 954 57), (32, 0xB2E63480, .mLdUw 46 397 8),
    (32, 0xA1C740C0, .mStB 28 464 12), (32, 0xA68E33A0, .mStW 40 908 58), (32, 0xA8060630, .mStL 0 385 35),
    (32, 0xAE4A7380, .mStQ 36 668 56), (32, 0x4200CB40, .mLdxB 32 50 52), (32, 0x43C155D0, .mLdxW 60 21 29),
    (32, 0x4142A7E0, .mLdxL 20 41 62), (32, 0x40D31AE0, .mLdxQ 13 6 46), (32, 0x4374D330, .mLdxUb 55 52 51),
    (32, 0x429CEED0, .mLdxUw 41 59 45), (32, 0x607034F0, .mStxB 7 13 15), (32, 0x639163E0, .mStxW 57 24 62),
    (32, 0x6052F930, .mStxL 5 62 19), (32, 0x6223FB20, .mStxQ 34 62 50), (32, 0xC3B25100, .mLdloL 59 20 16),
    (32, 0xC3A3B760, .mLdloQ 58 45 54), (32, 0xC0165A00, .mLdhiL 1 22 32), (32, 0xC05709C0, .mLdhiQ 5 2 28),
    (32, 0xE1528DA0, .mStloL 21 35 26), (32, 0xE31345F0, .mStloQ 49 17 31), (32, 0xE3A604D0, .mSthiL 58 1 13),
    (32, 0xE337DC40, .mSthiQ 51 55 4), (32, 0x25B3CC20, .mSwapQ 27 51 2), (32, 0xE0B18BF0, .mPrefi 11 34),
    (32, 0xE154AFF0, .mAlloco 21 43), (32, 0xE325EBF0, .mIcbi 50 58), (32, 0xE0887BF0, .mOcbp 8 30),
    (32, 0xE099FFF0, .mOcbi 9 63), (32, 0xE21CE7F0, .mOcbwb 33 57), (32, 0xC2EF8750, .mGetcfg 46 33 53),
    (32, 0xE2BFB1C0, .mPutcfg 43 44 28)] = true := by decide +kernel

theorem test_decode_media_system : decodesAll [
    (32, 0xEBC87230, .mPta 61980 1 3), (32, 0xEE50DA50, .mPtb 37942 1 5), (32, 0x6BF11610, .mPtabs 5 1 1),
    (32, 0x6BF57240, .mPtrel 28 1 4), (32, 0x4425FF50, .mGettr 2 53), (32, 0x4451FE30, .mBlink 5 35),
    (32, 0x66812A40, .mBeq 40 10 1 4), (32, 0x6753EA20, .mBge 53 58 1 2), (32, 0x6535A870, .mBne 19 42 0 7),
    (32, 0x6767DE40, .mBgt 54 55 1 4), (32, 0x64DB4E10, .mBgeu 13 19 1 1), (32, 0x67DF8A20, .mBgtu 61 34 1 2),
    (32, 0xE6417C30, .mBeqi 36 31 0 3), (32, 0xE6251E00, .mBnei 34 7 1 0), (32, 0x266FFD80, .mGetcon 38 24),
    (32, 0x6C1FFE20, .mPutcon 1 34), (32, 0x6FE1FFF0, .mTrapa 62), (32, 0x6FF5FFF0, .mBrk), (32, 0x6FF3FFF0, .mRte),
    (32, 0x6FF7FFF0, .mSleep), (32, 0x6FF2FFF0, .mSynci), (32, 0x6FF6FFF0, .mSynco), (32, 0x6FF0FFF0, .mNop)] = true := by decide +kernel

theorem test_decode_media_fpu_1 : decodesAll [
    (32, 0x18200BA0, .mFabsS 2 2 58), (32, 0x19816320, .mFabsD 24 24 50), (32, 0x1BF2FC70, .mFnegS 63 63 7),
    (32, 0x19E37AC0, .mFnegD 30 30 44), (32, 0x34A013B0, .mFaddS 10 4 59), (32, 0x362171A0, .mFaddD 34 28 26),
    (32, 0x37A2F730, .mFsubS 58 61 51), (32, 0x37A36100, .mFsubD 58 24 16), (32, 0x34F479F0, .mFdivS 15 30 31),
    (32, 0x348551A0, .mFdivD 8 20 26), (32, 0x3796D3B0, .mFmulS 57 52 59), (32, 0x3787E9E0, .mFmulD 56 58 30),
    (32, 0x361E5060, .mFmacS 33 20 6), (32, 0x38C43270, .mFsqrtS 12 12 39), (32, 0x38050100, .mFsqrtD 0 0 16),
    (32, 0x3088B310, .mFcmpeqS 8 44 49), (32, 0x33E90020, .mFcmpeqD 62 0 2), (32, 0x30CA24E0, .mFcmpunS 12 9 14),
    (32, 0x300BA920, .mFcmpunD 0 42 18), (32, 0x314CB960, .mFcmpgtS 20 46 22), (32, 0x30ED99F0, .mFcmpgtD 14 38 31),
    (32, 0x306E7EE0, .mFcmpgeS 6 31 46), (32, 0x324F1B60, .mFcmpgeD 36 6 54), (32, 0x3A008100, .mFmovS 32 32 16),
    (32, 0x3AC1B2C0, .mFmovD 44 44 44), (32, 0x3A1685A0, .mFcnvSd 33 33 26), (32, 0x38070280, .mFcnvDs 0 0 40),
    (32, 0x39A86A10, .mFtrcSl 26 26 33), (32, 0x3A699A20, .mFtrcDq 38 38 34), (32, 0x38DA3680, .mFtrcSq 13 13 40),
    (32, 0x3A2B88D0, .mFtrcDl 34 34 13), (32, 0x3A1C8760, .mFloatLs 33 33 54), (32, 0x3A2D8A40, .mFloatQd 34 34 36),
    (32, 0x3B6ED8E0, .mFloatLd 54 54 14), (32, 0x3BAFEA80, .mFloatQs 58 58 40), (32, 0x3330CF90, .mFmovSl 51 51 57),
    (32, 0x30A12A60, .mFmovDq 10 10 38), (32, 0x1D40FF90, .mFmovLs 20 57), (32, 0x1FB1FCC0, .mFmovQd 59 12),
    (32, 0x1FF2FCD0, .mFgetscr 13)] = true := by decide +kernel

theorem test_decode_media_fpu_2 : decodesAll [
    (32, 0x3312C7F0, .mFputscr 49 49), (32, 0x14C6E060, .mFiprS 12 56 6), (32, 0x140EE0C0, .mFtrvS 0 56 12),
    (32, 0x948BA050, .mFldS 8 744 5), (32, 0x99063460, .mFldP 16 397 6), (32, 0x9DBD53C0, .mFldD 27 852 60),
    (32, 0xB5A8B320, .mFstS 26 556 50), (32, 0xBAD204C0, .mFstP 45 129 12), (32, 0xBD9A0EA0, .mFstD 25 643 42),
    (32, 0x43380460, .mFldxS 51 1 6), (32, 0x40C992A0, .mFldxD 12 36 42), (32, 0x416DEB40, .mFldxP 22 58 52),
    (32, 0x63D85C70, .mFstxS 61 23 7), (32, 0x62D98280, .mFstxD 45 32 40), (32, 0x630D5600, .mFstxP 48 21 32)] = true := by decide +kernel

/-- The worked encodings of 30 R128. -/
theorem test_decode_R128 : decodesAll [(16, 0x321C, .cAdd 1 2), (16, 0xE105, .cMovImm 5 1), (16, 0x720A, .cAddImm 10 2),
    (16, 0x0009, .cNop), (32, 0x6FF0FFF0, .mNop), (32, 0x6FF5FFF0, .mBrk), (32, 0xCC019050, .mMovi 100 5),
    (32, 0xC4510C60, .mShlli 5 3 6), (32, 0x00F9FCE0, .mAdd 15 63 14)] = true := by decide +kernel

/-- 30 R112, R118: words that match no row. -/
theorem test_decode_rejects : decodeTableWord 16 0xFFFF = none ∧ decodeTableWord 32 0x00190831 = none ∧
    decodeTableWord 32 0x10000000 = none := by decide +kernel

/-! ### Vectors of spec 95: one step each, expected values from the spec's table -/

theorem test_V_40_01 : (nextOf (step (placeCode { ((((State.reset).setR 1 0x1).setR 2 0x7FFFFFFF).setT false) with pc
      := 0x1000 } (.half 0x321F)))).any (fun t => t.r 2 == 0x80000000 && t.g 2 == 0xFFFFFFFF80000000 && t.flagT ==
      true && t.dstate == .fetching) = true := by
  decide +kernel

theorem test_V_40_02 : (nextOf (step (placeCode { ((((State.reset).setR 1 0x1).setR 2 0xFFFFFFFF).setT false) with pc
      := 0x1000 } (.half 0x321E)))).any (fun t => t.r 2 == 0x0 && t.flagT == true && t.dstate == .fetching) = true := by
  decide +kernel

theorem test_V_40_04 : (nextOf (step (placeCode { ((((State.reset).setR 1 0x1).setR 2 0x0).setT false) with pc :=
      0x1000 } (.half 0x321A)))).any (fun t => t.r 2 == 0xFFFFFFFF && t.g 2 == 0xFFFFFFFFFFFFFFFF && t.flagT == true
      && t.dstate == .fetching) = true := by
  decide +kernel

theorem test_V_40_12 : (nextOf (step (placeCode { (((((State.reset).setS false).setR 4 0x100).write32 0x100
      0x3).write32 0x104 0x5) with pc := 0x1000 } (.half 0x044F)))).any (fun t => t.getMacl == 0xF && t.getMach ==
      0x0 && t.r 4 == 0x108 && t.dstate == .fetching) = true := by
  decide +kernel

theorem test_V_40_13 : (nextOf (step (placeCode { ((((State.reset).setR 4 0x101).setR 5 0x200).setMacl 0x5) with pc
      := 0x1000 } (.half 0x445F)))).any (fun t => t.event == .memoryFault 0x101 0x1000 && t.getMacl == 0x5 && t.r 4
      == 0x101 && t.r 5 == 0x200) = true := by
  decide +kernel

theorem test_V_40_15 : (nextOf (step (placeCode { ((((State.reset).setR 1 0x0).setR 2 0x80000001).setT true) with pc
      := 0x1000 } (.half 0x3214)))).any (fun t => t.r 2 == 0x3 && t.flagQ == true && t.flagT == false && t.dstate ==
      .fetching) = true := by
  decide +kernel

theorem test_V_40_16 : (nextOf (step (placeCode { ((State.reset).setR 2 0x40000000) with pc := 0x1000 } (.half
      0x3224)))).any (fun t => t.r 2 == 0x40000000 && t.flagQ == false && t.flagT == true && t.dstate == .fetching) =
      true := by
  decide +kernel

theorem test_V_40_19 : (nextOf (step (placeCode { (((State.reset).setR 1 0x80000000).setR 2 0x80000000) with pc :=
      0x1000 } (.half 0x321D)))).any (fun t => t.getMach == 0x40000000 && t.getMacl == 0x0 && t.dstate == .fetching)
      = true := by
  decide +kernel

theorem test_V_40_22 : (nextOf (step (placeCode { (((State.reset).setR 1 0xFFFFFFE0).setR 2 0x80000000) with pc :=
      0x1000 } (.half 0x421C)))).any (fun t => t.r 2 == 0xFFFFFFFF && t.dstate == .fetching) = true := by
  decide +kernel

theorem test_V_40_23 : (nextOf (step (placeCode { (((State.reset).setR 1 0xFFFFFFE0).setR 2 0x80000000) with pc :=
      0x1000 } (.half 0x421D)))).any (fun t => t.r 2 == 0x0 && t.dstate == .fetching) = true := by
  decide +kernel

theorem test_V_40_33 : (nextOf (step (placeCode { ((State.reset).setG 3 0x000000017FFFFFFF) with pc := 0x1000 }
      (.half 0x7301)))).any (fun t => t.g 3 == 0xFFFFFFFF80000000 && t.dstate == .fetching) = true := by
  decide +kernel

theorem test_V_40_39 : (nextOf (step (placeCode { (((State.reset).setR 1 0x80000000).setT true) with pc := 0x1000 }
      (.half 0x4124)))).any (fun t => t.r 1 == 0x1 && t.flagT == true && t.dstate == .fetching) = true := by
  decide +kernel

theorem test_V_40_43 : (nextOf (step (placeCode { ((((State.reset).setGbr 0x1000).setR 0 0xFFFFFFFF).write8 0xFFF
      0xF5) with pc := 0x1000 } (.half 0xCD0F)))).any (fun t => t.read8 0xFFF == 0x05 && t.dstate == .fetching) =
      true := by
  decide +kernel

theorem test_V_41_04 : (nextOf (step (placeCode { ((((State.reset).setR 1 0x100).write8 0x100 0x12).write8 0x101
      0x34) with pc := 0x1000 } (.half 0x6211)))).any (fun t => t.r 2 == 0x1234 && t.dstate == .fetching) = true := by
  decide +kernel

theorem test_V_41_04l : (nextOf (step (placeCode { (((({ State.reset with endian := .little }).setR 1 0x100).write8
      0x100 0x12).write8 0x101 0x34) with pc := 0x1000 } (.half 0x6211)))).any (fun t => t.r 2 == 0x3412 && t.dstate
      == .fetching) = true := by
  decide +kernel

theorem test_V_41_06 : (nextOf (step (placeCode { (((State.reset).setR 15 0x7FFC).write32 0x7FFC 0x9) with pc :=
      0x1000 } (.half 0x6FF6)))).any (fun t => t.r 15 == 0x9 && t.dstate == .fetching) = true := by
  decide +kernel

theorem test_V_41_07 : (nextOf (step (placeCode { ((State.reset).setR 15 0x8000) with pc := 0x1000 } (.half
      0x2FF6)))).any (fun t => t.read32 0x7FFC == 0x8000 && t.r 15 == 0x7FFC && t.dstate == .fetching) = true := by
  decide +kernel

theorem test_V_41_10 : (nextOf (step (placeCode { ((State.reset).write32 0x1008 0xCAFEF00D) with pc := 0x1002 }
      (.half 0xD101)))).any (fun t => t.r 1 == 0xCAFEF00D && t.dstate == .fetching) = true := by
  decide +kernel

theorem test_V_41_14 : (nextOf (step (placeCode { (((State.reset).setR 1 0x7FFFFFFC).write32 0xFFFFFFFF80000000 0x77)
      with pc := 0x1000 } (.half 0x5211)))).any (fun t => t.r 2 == 0x77 && t.dstate == .fetching) = true := by
  decide +kernel

theorem test_V_41_18 : (nextOf (step (placeCode { ((State.reset).setR 2 0x5) with pc := 0x1000 } (.pair 0x3211
      0x6800)))).any (fun t => t.event == .invalidInstruction 0x1000 && t.refused.isSome && t.r 2 == 0x5) = true := by
  decide +kernel

theorem test_V_41_22 : (nextOf (step (placeCode { (((((({ State.reset with endian := .little }).setR 1 0x101).write8
      0x101 0x11).write8 0x102 0x22).write8 0x103 0x33).write8 0x104 0x44) with pc := 0x1000 } (.half 0x41E9)))).any
      (fun t => t.r 0 == 0x44332211 && t.r 1 == 0x105 && t.dstate == .fetching) = true := by
  decide +kernel

theorem test_V_41_25 : (nextOf (step (placeCode { ((State.reset).setR 1 0xAABBCCDD) with pc := 0x1000 } (.half
      0x6118)))).any (fun t => t.r 1 == 0xAABBDDCC && t.dstate == .fetching) = true := by
  decide +kernel

theorem test_V_42_03 : (nextOf (step (placeCode { ((State.reset).setT false) with pc := 0x1000 } (.half
      0x8BFE)))).any (fun t => t.pc == 0x1000 && t.dstate == .fetching) = true := by
  decide +kernel

theorem test_V_42_05 : (nextOf (step (placeCode { ((State.reset).setT true) with pc := 0x1000 } (.half 0x8D03)))).any
      (fun t => t.pc == 0x1002 && t.pending == (some ⟨0x100A, false⟩) && t.dstate == .fetching) = true := by
  decide +kernel

theorem test_V_42_07 : (nextOf (step (placeCode { ((State.reset).setR 3 0x2003) with pc := 0x1000 } (.half
      0x432B)))).any (fun t => t.pending == (some ⟨0x2003, true⟩) && t.pc == 0x1002 && t.dstate == .fetching) = true
      := by
  decide +kernel

theorem test_V_42_11 : (nextOf (step (placeCode { ((State.reset).setR 2 0x21) with pc := 0x1000 } (.half
      0x0203)))).any (fun t => t.getPr == 0x1004 && t.pending == (some ⟨0x1025, true⟩) && t.dstate == .fetching) =
      true := by
  decide +kernel

theorem test_V_42_12 : (nextOf (step { (placeCode { (State.reset) with pc := 0x1002 } (.half 0x8900)) with pending :=
      (some ⟨0x1008, false⟩) })).any (fun t => t.event == .invalidInstruction 0x1002 && t.pending == (some ⟨0x1008,
      false⟩)) = true := by
  decide +kernel

theorem test_V_42_13 : (nextOf (step (placeCode { ((State.reset).setR 1 0x301) with pc := 0x1000 } (.half
      0x410E)))).any (fun t => t.flagT == true && t.flagS == false && t.flagQ == true && t.flagM == true && t.sr ==
      0x301 && t.dstate == .fetching) = true := by
  decide +kernel

theorem test_V_42_14 : (nextOf (step (placeCode { ((({ State.reset with endian := .little }).setR 15 0x8000).setPr
      0x1004) with pc := 0x1000 } (.half 0x4F22)))).any (fun t => t.read8 0x7FFC == 0x04 && t.read8 0x7FFD == 0x10 &&
      t.read8 0x7FFE == 0x00 && t.read8 0x7FFF == 0x00 && t.r 15 == 0x7FFC && t.dstate == .fetching) = true := by
  decide +kernel

theorem test_V_42_15 : (nextOf (step (placeCode { (((State.reset).setR 15 0x7FFC).write32 0x7FFC 0x80000000) with pc
      := 0x1000 } (.half 0x4F26)))).any (fun t => t.getPr == 0x80000000 && t.g 18 == 0xFFFFFFFF80000000 && t.r 15 ==
      0x8000 && t.dstate == .fetching) = true := by
  decide +kernel

theorem test_V_42_18 : (nextOf (step (placeCode { (State.reset) with pc := 0x1000 } (.half 0xC3FF)))).any (fun t =>
      t.event == .explicitTrap (.trapa 0xFF) 0x1002 && t.pc == 0x1002) = true := by
  decide +kernel

theorem test_V_43_03 : (nextOf (step (placeCode { ((((State.reset).setFpscr 0x80000).setF 2 0x3FF00000).setF 4
      0x40000000) with pc := 0x1000 } (.half 0xF420)))).any (fun t => t.f 4 == 0x40080000 && t.f 5 == 0x0 && t.dstate
      == .fetching) = true := by
  decide +kernel

theorem test_V_43_04 : (nextOf (step (placeCode { ((State.reset).setFpscr 0x80000) with pc := 0x1000 } (.half
      0xF320)))).any (fun t => t.event == .invalidInstruction 0x1000) = true := by
  decide +kernel

theorem test_V_43_12 : (nextOf (step (placeCode { ((State.reset).setF 2 0xFFC00001) with pc := 0x1000 } (.half
      0xF25D)))).any (fun t => t.f 2 == 0x7FC00001 && t.dstate == .fetching) = true := by
  decide +kernel

theorem test_V_43_16 : (nextOf (step (placeCode { ((State.reset).setFpul 0x01000001) with pc := 0x1000 } (.half
      0xF12D)))).any (fun t => t.f 1 == 0x4B800000 && t.dstate == .fetching) = true := by
  decide +kernel

theorem test_V_43_20 : (nextOf (step (placeCode { (((State.reset).setF 1 0xBF7FFFFF).setFpul 0x7) with pc := 0x1000 }
      (.half 0xF13D)))).any (fun t => t.getFpul == 0x0 && t.dstate == .fetching) = true := by
  decide +kernel

theorem test_V_43_25 : (nextOf (step (placeCode { (((((State.reset).setFpscr 0x100000).setR 1 0x100).write32 0x100
      0x11223344).write32 0x104 0x55667788) with pc := 0x1000 } (.half 0xF318)))).any (fun t => t.f 18 == 0x11223344
      && t.f 19 == 0x55667788 && t.dstate == .fetching) = true := by
  decide +kernel

theorem test_V_43_27 : (nextOf (step (placeCode { ((({ State.reset with endian := .little }).setF 1 0x3F800000).setR
      15 0x8000) with pc := 0x1000 } (.half 0xFF1B)))).any (fun t => t.read8 0x7FFC == 0x00 && t.read8 0x7FFD == 0x00
      && t.read8 0x7FFE == 0x80 && t.read8 0x7FFF == 0x3F && t.r 15 == 0x7FFC && t.dstate == .fetching) = true := by
  decide +kernel

theorem test_V_43_28 : (nextOf (step (placeCode { ((State.reset).setR 1 0xFFC00000) with pc := 0x1000 } (.half
      0x416A)))).any (fun t => t.fpscr == 0x0 && t.dstate == .fetching) = true := by
  decide +kernel

theorem test_V_44_03 : (nextOf (step (placeCode { (((State.reset).setG 1 0xFFFFFFFF7FFFFFFF).setG 2 0x1) with pc :=
      0x2000 } (.word 0x00180830)))).any (fun t => t.g 3 == 0xFFFFFFFF80000000 && t.dstate == .fetching) = true := by
  decide +kernel

theorem test_V_44_05 : (nextOf (step (placeCode { ((((State.reset).setG 1 0xFFFFFFFF).setG 2 0x1).setG 3 0x9) with pc
      := 0x2000 } (.word 0x001C0830)))).any (fun t => t.g 3 == 0x0 && t.dstate == .fetching) = true := by
  decide +kernel

theorem test_V_44_12 : (nextOf (step (placeCode { ((((State.reset).setG 1 0x1).setG 2 0x9).setG 3 0x7) with pc :=
      0x2000 } (.word 0x20110830)))).any (fun t => t.g 3 == 0x7 && t.dstate == .fetching) = true := by
  decide +kernel

theorem test_V_44_14 : (nextOf (step (placeCode { ((State.reset).setG 1 0xFFFFFFFFFFFFFFFE) with pc := 0x2000 }
      (.word 0x001DFC20)))).any (fun t => t.g 2 == 0x3E && t.dstate == .fetching) = true := by
  decide +kernel

theorem test_V_44_18 : (nextOf (step (placeCode { (((State.reset).setG 1 0x1).setG 2 0x41) with pc := 0x2000 } (.word
      0x04110830)))).any (fun t => t.g 3 == 0x2 && t.dstate == .fetching) = true := by
  decide +kernel

theorem test_V_44_19 : (nextOf (step (placeCode { (((State.reset).setG 1 0x80000000).setG 2 0x20) with pc := 0x2000 }
      (.word 0x04120830)))).any (fun t => t.g 3 == 0xFFFFFFFF80000000 && t.dstate == .fetching) = true := by
  decide +kernel

theorem test_V_44_24 : (nextOf (step (placeCode { ((State.reset).setG 1 0xFFFF000000000000) with pc := 0x2000 }
      (.word 0xCBFFFC10)))).any (fun t => t.g 1 == 0xFFFF && t.dstate == .fetching) = true := by
  decide +kernel

theorem test_V_45_03 : (nextOf (step (placeCode { (((State.reset).setG 1 0x7FFF8000).setG 2 0x1FFFF) with pc :=
      0x2000 } (.word 0x08150830)))).any (fun t => t.g 3 == 0x7FFF8000 && t.dstate == .fetching) = true := by
  decide +kernel

theorem test_V_45_06 : (nextOf (step (placeCode { (((State.reset).setG 1 0x0102030405060708).setG 2
      0x0102FFFF05FF0708) with pc := 0x2000 } (.word 0x28100830)))).any (fun t => t.g 3 == 0xFFFF0000FF00FFFF &&
      t.dstate == .fetching) = true := by
  decide +kernel

theorem test_V_45_11 : (nextOf (step (placeCode { (((State.reset).setG 1 0x01000080).setG 2 0x0) with pc := 0x2000 }
      (.word 0x2C180830)))).any (fun t => t.g 3 == 0x7F7F && t.dstate == .fetching) = true := by
  decide +kernel

theorem test_V_45_12 : (nextOf (step (placeCode { (((State.reset).setG 1 0x0706050403020100).setG 2
      0x0F0E0D0C0B0A0908) with pc := 0x2000 } (.word 0x28170830)))).any (fun t => t.g 3 == 0x0807060504030201 &&
      t.dstate == .fetching) = true := by
  decide +kernel

theorem test_V_45_16 : (nextOf (step (placeCode { (((State.reset).setG 1 0x0004000300020001).setG 2 0x1B) with pc :=
      0x2000 } (.word 0x281D0830)))).any (fun t => t.g 3 == 0x0001000200030004 && t.dstate == .fetching) = true := by
  decide +kernel

theorem test_V_45_20 : (nextOf (step (placeCode { (((State.reset).setG 1 0x0706050403020100).setG 2
      0x1716151413121110) with pc := 0x2000 } (.word 0x2C100830)))).any (fun t => t.g 3 == 0x1303120211011000 &&
      t.dstate == .fetching) = true := by
  decide +kernel

theorem test_V_46_02 : (nextOf (step (placeCode { (((State.reset).setG 1 0x8002).setG 2 0x7) with pc := 0x2000 }
      (.word 0x88100020)))).any (fun t => t.event == .memoryFault 0x8002 0x2001 && t.g 2 == 0x7 && t.pc == 0x2000) =
      true := by
  decide +kernel

theorem test_V_46_05 : (nextOf (step (placeCode { ((((State.reset).setG 1 0x8000).write32 0x8000 0x01020304).write32
      0x8004 0x05060708) with pc := 0x2000 } (.word 0x8C100020)))).any (fun t => t.g 2 == 0x0102030405060708 &&
      t.dstate == .fetching) = true := by
  decide +kernel

theorem test_V_46_12 : (nextOf (step (placeCode { (((((({ State.reset with endian := .little }).setG 1 0x1001).write8
      0x1001 0x11).write8 0x1002 0x22).write8 0x1003 0x33).write8 0x1004 0x44) with pc := 0x2000 } (.word
      0xC0120020)))).any (fun t => t.g 2 == 0x00332211 && t.dstate == .fetching) = true := by
  decide +kernel

theorem test_V_46_13 : (nextOf (step (placeCode { (((((({ State.reset with endian := .little }).setG 1 0x1004).write8
      0x1001 0x11).write8 0x1002 0x22).write8 0x1003 0x33).write8 0x1004 0x44) with pc := 0x2000 } (.word
      0xC0160030)))).any (fun t => t.g 3 == 0x44000000 && t.dstate == .fetching) = true := by
  decide +kernel

theorem test_V_46_14 : (nextOf (step (placeCode { ((((((State.reset).setG 1 0x1004).write8 0x1001 0x11).write8 0x1002
      0x22).write8 0x1003 0x33).write8 0x1004 0x44) with pc := 0x2000 } (.word 0xC0120020)))).any (fun t => t.g 2 ==
      0x44 && t.dstate == .fetching) = true := by
  decide +kernel

theorem test_V_46_15 : (nextOf (step (placeCode { ((((((State.reset).setG 1 0x1001).write8 0x1001 0x11).write8 0x1002
      0x22).write8 0x1003 0x33).write8 0x1004 0x44) with pc := 0x2000 } (.word 0xC0160030)))).any (fun t => t.g 3 ==
      0x11223300 && t.dstate == .fetching) = true := by
  decide +kernel

theorem test_V_46_16 : (nextOf (step (placeCode { (((((State.reset).setG 1 0x8000).setG 2 0x8).write64 0x8008
      0x5).setG 3 0x9) with pc := 0x2000 } (.word 0x24130830)))).any (fun t => t.read64 0x8008 == 0x9 && t.g 3 == 0x5
      && t.dstate == .fetching) = true := by
  decide +kernel

theorem test_V_46_19 : (nextOf (step (placeCode { (State.reset) with pc := 0x2000 } (.word 0xC01F0020)))).any (fun t
      => t.event == .invalidInstruction 0x2001 && t.refused.isSome) = true := by
  decide +kernel

theorem test_V_47_01 : (nextOf (step (placeCode { (State.reset) with pc := 0x2000 } (.word 0xEBFFFC10)))).any (fun t
      => t.t 1 == 0x1FFD && t.pc == 0x2004 && t.dstate == .fetching) = true := by
  decide +kernel

theorem test_V_47_05 : (nextOf (step (placeCode { ((((State.reset).setG 1 0x5).setG 2 0x5).setTr 0 0x3001) with pc :=
      0x2000 } (.word 0x64110800)))).any (fun t => t.pc == 0x3000 && t.ism == .media && t.dstate == .fetching) = true
      := by
  decide +kernel

theorem test_V_47_07 : (nextOf (step (placeCode { ((((State.reset).setG 1 0xFFFFFFFFFFFFFFFF).setG 2 0x0).setTr 0
      0x3001) with pc := 0x2000 } (.word 0x64170800)))).any (fun t => t.pc == 0x2004 && t.dstate == .fetching) = true
      := by
  decide +kernel

theorem test_V_47_12 : (nextOf (step (placeCode { ((State.reset).setTr 0 0x3000) with pc := 0x2000 } (.word
      0x4401FD20)))).any (fun t => t.g 18 == 0x2005 && t.pc == 0x3000 && t.ism == .compact && t.dstate == .fetching)
      = true := by
  decide +kernel

theorem test_V_47_15 : (nextOf (step (placeCode { ((State.reset).setG 2 0xFFFFFFFF00000301) with pc := 0x2000 }
      (.word 0x6C2FFC00)))).any (fun t => t.sr == 0x301 && t.flagT == true && t.flagS == false && t.flagQ == true &&
      t.flagM == true && t.dstate == .fetching) = true := by
  decide +kernel

theorem test_V_47_17 : (nextOf (step (placeCode { ((State.reset).setG 5 0xFFFFFFFFFFFFFFFF) with pc := 0x2000 }
      (.word 0x6C51FFF0)))).any (fun t => t.event == .explicitTrap (.trapa 0xFFFFFFFFFFFFFFFF) 0x2005 && t.pc ==
      0x2004 && t.ism == .media) = true := by
  decide +kernel

theorem test_V_48_05 : (nextOf (step (placeCode { ((((State.reset).setF 1 0x7F800000).setF 2 0x7FC00000).setG 3 0x7)
      with pc := 0x2000 } (.word 0x301C0830)))).any (fun t => t.g 3 == 0x0 && t.dstate == .fetching) = true := by
  decide +kernel

theorem test_V_48_06 : (nextOf (step (placeCode { (((State.reset).setF 0 0x3FF00000).setF 2 0x40000000) with pc :=
      0x2000 } (.word 0x34010840)))).any (fun t => t.f 4 == 0x40080000 && t.f 5 == 0x0 && t.dstate == .fetching) =
      true := by
  decide +kernel

theorem test_V_48_07 : (nextOf (step (placeCode { (State.reset) with pc := 0x2000 } (.word 0x34110840)))).any (fun t
      => t.event == .invalidInstruction 0x2001) = true := by
  decide +kernel

theorem test_V_48_13 : (nextOf (step (placeCode { ((((State.reset).setF 1 0x40000000).setF 2 0x40400000).setF 3
      0x3F800000) with pc := 0x2000 } (.word 0x341E0830)))).any (fun t => t.f 3 == 0x40E00000 && t.dstate ==
      .fetching) = true := by
  decide +kernel

theorem test_V_48_16 : (nextOf (step (placeCode { ((State.reset).setF 1 0xC0200000) with pc := 0x2000 } (.word
      0x38180420)))).any (fun t => t.f 2 == 0xFFFFFFFE && t.dstate == .fetching) = true := by
  decide +kernel

theorem test_V_48_18 : (nextOf (step (placeCode { ((State.reset).setF 1 0x3F800000) with pc := 0x2000 } (.word
      0x38160420)))).any (fun t => t.f 2 == 0x3FF00000 && t.f 3 == 0x0 && t.dstate == .fetching) = true := by
  decide +kernel

theorem test_V_48_20 : (nextOf (step (placeCode { ((State.reset).setF 1 0xFFFFFFFF) with pc := 0x2000 } (.word
      0x301207F0)))).any (fun t => t.fpscr == 0x3FFFFF && t.dstate == .fetching) = true := by
  decide +kernel

theorem test_V_49_04 : (nextOf (step (placeCode { ((State.reset).setR 1 0x3) with pc := 0x1000 } (.half
      0xFFFF)))).any (fun t => t.event == .invalidInstruction 0x1000 && t.r 1 == 0x3 && t.pc == 0x1000) = true := by
  decide +kernel

theorem test_V_49_05 : (nextOf (step (placeCode { (State.reset) with pc := 0x2000 } (.word 0x00000000)))).any (fun t
      => t.event == .invalidInstruction 0x2001 && t.pc == 0x2000) = true := by
  decide +kernel

theorem test_V_60_03 : (nextOf (step (placeCode { ((State.reset).setR 1 0x102) with pc := 0x1000 } (.half
      0x2116)))).any (fun t => t.event == .memoryFault 0xFE 0x1000 && t.r 1 == 0x102) = true := by
  decide +kernel

/-! ### Witnesses: a concrete state and operands that meet the hypotheses of each obligation, clause by clause -/

/-- A state with `k` in the compact register 1. -/
def with1 (k : Word) : State := State.reset.setR 1 k

/-- A state whose memory holds one readable region only, of 256 bytes from 0x100. -/
def walled : State := { State.reset with params := { Params.decided with mem := [⟨0x100, 0x100, true, false⟩] } }

/-- The same, with misaligned accesses split. -/
def splitWalled : State := { walled with params := { walled.params with misaligned := .split } }

/-- A state whose readable region starts and ends at odd addresses. -/
def oddWalled : State := { State.reset with params := { Params.decided with mem := [⟨0x101, 0x102, true, false⟩] } }

/-- The machine right after `Reset()` under `RESET_STATE = unwritten`. -/
noncomputable def fresh : State :=
  hostReset { State.reset with params := { Params.decided with resetState := .unwritten } }

/-- `addc r1,r2` at 0x1000, with PC, GR1 and GR2 written by the host. -/
noncomputable def adding : State :=
  (writeReg (writeReg (writeReg fresh 0x1000 .pc) 5 (.gr 1)) 6 (.gr 2)).write16 0x1000 0x321E

/-- `mul.l r1,r1` under `COMPACT_ALIAS = separate`, with PC and GR1 written by the host. -/
noncomputable def separately : State :=
  writeReg (placeCode { fresh with params := { fresh.params with storage := .separate } } (.half 0x0117)) 7 (.gr 1)

/-- A state in which misaligned accesses are split. -/
def splitting : State := { State.reset with params := { Params.decided with misaligned := .split } }

/-- A state with double precision for the compact float operations. -/
def double : State := State.reset.setFpscr 0x00080000

/-- A state with 64-bit transfers. -/
def wide : State := State.reset.setFpscr 0x00100000

/-- `bra` at 0 with `nop` in its slot. -/
noncomputable def branching : State := (placeCode State.reset (.half 0xA002)).write16 2 0x0009

/-- The state after the first step of `branching`. -/
noncomputable def inSlot : State := { branching with pc := 2, pending := some ⟨8, false⟩ }

/-- `branching` with the sticky mark set. -/
noncomputable def marked : State := { branching with refused := some ⟨.movco, 0⟩ }

theorem witness_CompactResultsFromElsewhere : (State.reset.setR 0 1).r 0 ≠ 0 ∧ State.reset.r 0 = 0 := by decide +kernel

theorem witness_CompactShifts : ((with1 0x7FFFFFFF).r 1).msb = false ∧ ((with1 0x80000000).r 1).msb = true := by
  decide +kernel

theorem witness_CompactDivideAndMultiply :
    ((2 * ((with1 0xFFFFFFFF).r 1).toNat + (with1 0).flagT.toNat) % 2 ^ 32 = 0xFFFFFFFE) ∧
    State.reset.flagQ = State.reset.flagM ∧ (State.reset.setQ true).flagQ ≠ (State.reset.setQ true).flagM := by
  decide +kernel

theorem witness_CompactMultiplyAccumulate :
    (with1 0xFFFFFFFC).readFault (sext64 ((with1 0xFFFFFFFC).r 1)) 4 = none ∧
    (with1 0xFFFFFFFC).readFault (sext64 (if (1 : CReg) = 1 then (with1 0xFFFFFFFC).r 1 + 4 else 0)) 4 = none ∧
    (with1 2).readFault (sext64 ((with1 2).r 1)) 2 = none ∧ (with1 2).readFault (sext64 ((with1 2).r 0)) 2 = none ∧
    State.reset.flagS = false ∧ (State.reset.setS true).flagS = true := by decide +kernel

theorem witness_CompactSpecialWritesAndTransfers_load : (with1 0xFFFFFFFC).readFault (sext64 ((with1 0xFFFFFFFC).r 1)) 4 = none := by
  decide +kernel

theorem witness_CompactSpecialWritesAndTransfers_store : (with1 0).writeFault (sext64 ((with1 0).r 1 - 4)) 4 = none := by decide +kernel

theorem witness_CompactLoads :
    (with1 0xFFFFFFFF).readFault (sext64 ((with1 0xFFFFFFFF).r 1)) 1 = none ∧
    (with1 0x100).readFault (sext64 ((with1 0x100).r 0 + (with1 0x100).r 1)) 4 = none ∧
    (with1 1).readFault (sext64 ((with1 1).r 1 + BitVec.ofNat 32 (15 : BitVec 4).toNat)) 1 = none ∧
    (with1 2).readFault (sext64 ((with1 2).r 1 + BitVec.ofNat 32 ((15 : BitVec 4).toNat * 2))) 2 = none ∧
    (with1 4).readFault (sext64 ((with1 4).r 1 + BitVec.ofNat 32 ((15 : BitVec 4).toNat * 4))) 4 = none ∧
    (with1 4).readFault (sext64 ((with1 4).getGbr + BitVec.ofNat 32 (255 : BitVec 8).toNat)) 1 = none ∧
    (with1 4).readFault (sext64 ((with1 4).getGbr + BitVec.ofNat 32 ((255 : BitVec 8).toNat * 2))) 2 = none ∧
    (with1 4).readFault (sext64 ((with1 4).getGbr + BitVec.ofNat 32 ((255 : BitVec 8).toNat * 4))) 4 = none := by
  decide +kernel

theorem witness_CompactLoadsOther :
    (with1 0).readFault (sext64 (low32 (with1 0).pc + 4 + BitVec.ofNat 32 ((255 : BitVec 8).toNat * 2))) 2 = none ∧
    (with1 0).readFault (sext64 (BitVec.ofNat 32 ((low32 (with1 0).pc).toNat / 4 * 4 + 4 + (255 : BitVec 8).toNat * 4))) 4
      = none ∧
    (with1 0).readFault (sext64 ((with1 0).getGbr + (with1 0).r 0)) 1 = none ∧
    ((0x7FF : BitVec 12).toNat < 2 ^ 11 ∧
      (with1 0).readFault (sext64 ((with1 0).r 1 + BitVec.ofNat 32 ((0x7FF : BitVec 12).toNat * 4))) 4 = none) ∧
    (with1 0x101).readFault (sext64 ((with1 0x101).r 1)) 1 = none ∧
    (with1 0x102).readFault (sext64 ((with1 0x102).r 1)) 2 = none ∧
    (with1 0x104).readFault (sext64 ((with1 0x104).r 1)) 4 = none ∧
    (bytesFrom (sext64 ((with1 0x101).r 1)) 4).all (canRead (with1 0x101).params) = true := by decide +kernel

theorem witness_CompactStores :
    (with1 0xFFFFFFFF).writeFault (sext64 ((with1 0xFFFFFFFF).r 1)) 1 = none ∧
    (with1 0x100).writeFault (sext64 ((with1 0x100).r 0 + (with1 0x100).r 1)) 4 = none ∧
    (with1 1).writeFault (sext64 ((with1 1).r 1 + BitVec.ofNat 32 (15 : BitVec 4).toNat)) 1 = none ∧
    (with1 2).writeFault (sext64 ((with1 2).r 1 + BitVec.ofNat 32 ((15 : BitVec 4).toNat * 2))) 2 = none ∧
    (with1 4).writeFault (sext64 ((with1 4).r 1 + BitVec.ofNat 32 ((15 : BitVec 4).toNat * 4))) 4 = none ∧
    (with1 4).writeFault (sext64 ((with1 4).getGbr + BitVec.ofNat 32 (255 : BitVec 8).toNat)) 1 = none ∧
    (with1 4).writeFault (sext64 ((with1 4).getGbr + BitVec.ofNat 32 ((255 : BitVec 8).toNat * 2))) 2 = none ∧
    (with1 4).writeFault (sext64 ((with1 4).getGbr + BitVec.ofNat 32 ((255 : BitVec 8).toNat * 4))) 4 = none := by
  decide +kernel

theorem witness_CompactStoresOther :
    (with1 0).writeFault (sext64 ((with1 0).r 1 - 1)) 1 = none ∧
    (with1 0).writeFault (sext64 ((with1 0).r 1 - 2)) 2 = none ∧
    (with1 0).writeFault (sext64 ((with1 0).r 1 - 4)) 4 = none ∧
    ((0x7FF : BitVec 12).toNat < 2 ^ 11 ∧
      (with1 0).writeFault (sext64 ((with1 0).r 1 + BitVec.ofNat 32 ((0x7FF : BitVec 12).toNat * 4))) 4 = none) ∧
    (with1 4).writeFault (sext64 ((with1 4).r 1)) 4 = none ∧
    ((with1 3).readFault (sext64 ((with1 3).r 1)) 1 = none ∧ (with1 3).writeFault (sext64 ((with1 3).r 1)) 1 = none) ∧
    ((with1 3).readFault (sext64 ((with1 3).getGbr + (with1 3).r 0)) 1 = none ∧
      (with1 3).writeFault (sext64 ((with1 3).getGbr + (with1 3).r 0)) 1 = none) := by decide +kernel

theorem witness_CompactBranches :
    (sext64 (BitVec.ofInt 32 ((low32 State.reset.pc).toNat + 4 + (0x80 : BitVec 8).toInt * 2)) = 0xFFFFFFFFFFFFFF04) ∧
    (sext64 (BitVec.ofInt 32 ((low32 State.reset.pc).toNat + 4 + (0x7FF : BitVec 12).toInt * 2)) = 0x1002) ∧
    (sext64 (BitVec.ofNat 32 ((low32 (with1 0xFFFFFFFF).pc).toNat + 4 + ((with1 0xFFFFFFFF).r 1).toNat)) = 3) ∧
    (BitVec.ofNat 32 ((low32 State.reset.pc).toNat + 4) = 4#32) := by decide +kernel

theorem witness_TrapsHintsAndBarriers (s : State) : Instr.mTrapa 63 = .mTrapa 63 ∧ s.g 63 = 0 :=
  ⟨rfl, by simp [State.g, Vector.getD]⟩

theorem witness_RefusedInstructions :
    State.reset.params.movco = .refuse ∧
    ({ State.reset with params := { Params.decided with movco := .placeholder } } : State).params.movco = .placeholder ∧
    (0x800 : BitVec 12).getLsbD 11 = true := by decide +kernel

theorem witness_CompactFpViews : (14 : CReg).toNat % 2 = 0 ∧ (15 : CReg).toNat % 2 = 1 := by decide

theorem witness_CompactFpArithmetic :
    State.reset.fpPR = false ∧ double.fpPR = true ∧ (14 : CReg).toNat % 2 = 0 := by decide +kernel

theorem witness_CompactFpTransfers :
    State.reset.fpPR = false ∧ double.fpPR = true ∧ (0 : CReg).toNat % 2 = 0 := by decide +kernel

theorem witness_CompactFpVectorsAndMoves :
    State.reset.fpPR = false ∧ State.reset.fpSZ = false ∧ wide.fpSZ = true ∧
    State.reset.readFault (sext64 (State.reset.r 1)) 4 = none ∧ State.reset.writeFault (sext64 (State.reset.r 1 - 4)) 4 = none ∧
    State.reset.readFault (sext64 (State.reset.r 0 + State.reset.r 1)) 4 = none ∧
    (wide.params.misaligned = .fault → (sext64 (wide.r 1 - 8)).toNat % 8 = 0) ∧
    wide.writeFault (sext64 (wide.r 1 - 8)) 4 = none ∧ wide.writeFault (sext64 (wide.r 1 - 8) + 4) 4 = none ∧
    wide.readFault (sext64 (wide.r 1)) 4 = none ∧ wide.readFault (sext64 (wide.r 1) + 4) 4 = none ∧
    wide.writeFault (sext64 (wide.r 1)) 4 = none ∧ wide.writeFault (sext64 (wide.r 1) + 4) 4 = none ∧
    (0x7FF : BitVec 12).toNat < 2 ^ 11 ∧
    ((sext64 (wide.r 1 + BitVec.ofNat 32 ((0x7FF : BitVec 12).toNat * 8))).toNat % 8 = 0) ∧
    wide.readFault (sext64 (wide.r 1 + BitVec.ofNat 32 ((0x7FF : BitVec 12).toNat * 8))) 4 = none := by decide +kernel

theorem witness_FpIllegalForms_compact :
    double.fpPR = true ∧ (15 : CReg).toNat % 2 = 1 ∧ State.reset.fpPR = false := by decide +kernel

theorem witness_MediaImmediatesTargetsControl : (63 : MReg) ≠ 0 ∧ (1 : MReg) ≠ 0 := by decide

theorem witness_MediaBranches :
    State.reset.g 1 = State.reset.g 63 ∧ (State.reset.setG 1 5).g 1 ≠ (State.reset.setG 1 5).g 63 ∧
    ((State.reset.setG 1 5).g 1).toInt > ((State.reset.setG 1 5).g 63).toInt ∧
    ((State.reset.setG 1 0xFFFFFFFFFFFFFFE0).g 1).toInt = (0x20 : BitVec 6).toInt := by decide +kernel

theorem witness_TrapsHintsAndBarriers_hints (m : MReg) (imm : BitVec 6) :
    Instr.mNop ∈ ([.mPrefi m imm, .mAlloco m imm, .mIcbi m imm, .mOcbp m imm, .mOcbi m imm, .mOcbwb m imm, .mSynci, .mSynco,
      .mNop] : List Instr) := by simp

theorem witness_MediaPackedExtractShuffle (m n d : MReg) :
    ((7, .mMextr7 m n d) : Nat × Instr) ∈ ([(1, .mMextr1 m n d), (2, .mMextr2 m n d), (3, .mMextr3 m n d),
      (4, .mMextr4 m n d), (5, .mMextr5 m n d), (6, .mMextr6 m n d), (7, .mMextr7 m n d)] : List (Nat × Instr)) := by simp

theorem witness_MediaPackedMultiply : ∃ (w l : Nat → Int) (c : Int → Int),
    (∀ j, w j = (wordAt (State.reset.g 1) j).toInt * (wordAt (State.reset.g 2) j).toInt) ∧
    (∀ j, l j = (longAt (State.reset.g 1) j).toInt * (longAt (State.reset.g 2) j).toInt) ∧
    (∀ x, c x = max (-2 ^ 31) (min (2 ^ 31 - 1) x)) := ⟨_, _, _, fun _ => rfl, fun _ => rfl, fun _ => rfl⟩

theorem witness_MediaPackedShifts :
    (15 : Nat) = ((State.reset.setG 1 31).g 1).toNat % 16 ∧ (31 : Nat) = ((State.reset.setG 1 31).g 1).toNat % 32 := by
  decide +kernel

theorem witness_MediaLoadsAndStores_loads :
    State.reset.readFault (State.reset.g 1 + BitVec.ofInt 64 (0x200 : BitVec 10).toInt) 1 = none ∧
    State.reset.readFault (State.reset.g 1 + BitVec.ofInt 64 ((0x1FF : BitVec 10).toInt * 2)) 2 = none ∧
    State.reset.readFault (State.reset.g 1 + BitVec.ofInt 64 ((0x200 : BitVec 10).toInt * 4)) 4 = none ∧
    State.reset.readFault (State.reset.g 1 + BitVec.ofInt 64 ((0x1FF : BitVec 10).toInt * 8)) 8 = none ∧
    State.reset.readFault (State.reset.g 1 + State.reset.g 63) 8 = none := by decide +kernel

theorem witness_MediaLoadsAndStores_stores :
    State.reset.writeFault (State.reset.g 1 + BitVec.ofInt 64 (0x200 : BitVec 10).toInt) 1 = none ∧
    State.reset.writeFault (State.reset.g 1 + BitVec.ofInt 64 ((0x1FF : BitVec 10).toInt * 2)) 2 = none ∧
    State.reset.writeFault (State.reset.g 1 + BitVec.ofInt 64 ((0x200 : BitVec 10).toInt * 4)) 4 = none ∧
    State.reset.writeFault (State.reset.g 1 + BitVec.ofInt 64 ((0x1FF : BitVec 10).toInt * 8)) 8 = none ∧
    State.reset.writeFault (State.reset.g 1 + State.reset.g 63) 8 = none ∧
    State.reset.readFault (State.reset.g 1 + State.reset.g 63) 8 = none := by decide +kernel

theorem witness_MediaMisalignedPairs (u : Bool) : ∃ s : State, u = (s.endian == .little) ∧
    (blockPart u 3 4).all (canRead s.params) = true ∧ (blockPart u 7 8).all (canRead s.params) = true ∧
    (blockPart u 0 4).all (canWrite s.params) = true ∧ (blockPart u 0 8).all (canWrite s.params) = true := by
  cases u
  · exact ⟨State.reset, by decide +kernel⟩
  · exact ⟨{ State.reset with endian := .little }, by decide +kernel⟩

theorem witness_MediaMisalignedPairs_high (u : Bool) : ∃ s : State, u = (s.endian == .big) ∧
    (blockPart u 3 4).all (canRead s.params) = true ∧ (blockPart u 7 8).all (canRead s.params) = true ∧
    (blockPart u 0 4).all (canWrite s.params) = true ∧ (blockPart u 0 8).all (canWrite s.params) = true := by
  cases u
  · exact ⟨{ State.reset with endian := .little }, by decide +kernel⟩
  · exact ⟨State.reset, by decide +kernel⟩

theorem witness_MediaFpArithmeticAndCompare : (62 : MReg).toNat % 2 = 0 ∧ (0 : MReg).toNat % 2 = 0 := by decide

theorem witness_MediaFpMoveConvert : (62 : MReg).toNat % 2 = 0 ∧ (0 : MReg).toNat % 2 = 0 := by decide

theorem witness_MediaFpRegistersVectors :
    (62 : MReg).toNat % 2 = 0 ∧ (60 : MReg).toNat % 4 = 0 ∧ (48 : MReg).toNat % 16 = 0 := by decide

theorem witness_MediaFpMemory :
    State.reset.readFault (State.reset.g 1 + BitVec.ofInt 64 ((0x200 : BitVec 10).toInt * 4)) 4 = none ∧
    State.reset.writeFault (State.reset.g 1 + BitVec.ofInt 64 ((0x200 : BitVec 10).toInt * 4)) 4 = none ∧
    State.reset.readFault (State.reset.g 1 + BitVec.ofInt 64 ((0x1FF : BitVec 10).toInt * 8)) 8 = none ∧
    State.reset.writeFault (State.reset.g 1 + BitVec.ofInt 64 ((0x1FF : BitVec 10).toInt * 8)) 8 = none ∧
    State.reset.readFault (State.reset.g 1 + State.reset.g 2) 4 = none ∧
    State.reset.writeFault (State.reset.g 1 + State.reset.g 2) 8 = none ∧ (62 : MReg).toNat % 2 = 0 ∧
    (State.reset.g 1 + BitVec.ofInt 64 ((0x1FF : BitVec 10).toInt * 8)).toNat % 8 = 0 ∧
    State.reset.readFault (State.reset.g 1 + BitVec.ofInt 64 ((0x1FF : BitVec 10).toInt * 8)) 4 = none ∧
    State.reset.readFault (State.reset.g 1 + BitVec.ofInt 64 ((0x1FF : BitVec 10).toInt * 8) + 4) 4 = none ∧
    State.reset.writeFault (State.reset.g 1 + BitVec.ofInt 64 ((0x1FF : BitVec 10).toInt * 8)) 4 = none ∧
    State.reset.writeFault (State.reset.g 1 + BitVec.ofInt 64 ((0x1FF : BitVec 10).toInt * 8) + 4) 4 = none := by
  decide +kernel

theorem witness_FpIllegalForms_media :
    (1 : MReg) ≠ 2 ∧ (63 : MReg).toNat % 2 = 1 ∧ (62 : MReg).toNat % 4 ≠ 0 ∧ (8 : MReg).toNat % 16 ≠ 0 := by decide

/-! The machine. -/

theorem witness_StepRunsDecodedInstruction :
    (branching.fetch = .ok (.half 0xA002) ∧ decodeCode branching.params.ext (.half 0xA002) = .ok (.cBra 2) ∧
      branching.pending = none ∧ branching.entryUnwritten = false ∧ branching.readsUnwritten (.cBra 2) = false ∧
      branching.params.resetState = .zero) ∧
    (inSlot.fetch = .ok (.half 0x0009) ∧ decodeCode inSlot.params.ext (.half 0x0009) = .ok .cNop ∧
      inSlot.pending ≠ none ∧ slotIllegal .cNop = false ∧ inSlot.entryUnwritten = false ∧
      inSlot.readsUnwritten .cNop = false ∧ (nextOf (exec .cNop { inSlot with dstate := .executing })).isSome) := by
  refine ⟨⟨?_, ?_, ?_, ?_, ?_, ?_⟩, ?_, ?_, ?_, ?_, ?_, ?_, ?_⟩
  on_goal 9 => decide +kernel
  all_goals rfl

theorem witness_StepReportsUnusableCode :
    ({ State.reset with ism := .media, pc := 2 } : State).fetch = .error 2 ∧ State.reset.entryUnwritten = false ∧
    (placeCode State.reset (.half 0xFFFF)).fetch = .ok (.half 0xFFFF) ∧
    decodeCode State.reset.params.ext (.half 0xFFFF) = .error .unrecognized ∧
    ({ branching with pending := some ⟨8, false⟩ } : State).fetch = .ok (.half 0xA002) ∧
    decodeCode branching.params.ext (.half 0xA002) = .ok (.cBra 2) ∧ slotIllegal (.cBra 2) = true := by
  refine ⟨?_, ?_, ?_, ?_, ?_, ?_, ?_⟩ <;> rfl

theorem witness_PlacedCodeIsFetched :
    State.reset.pc.getLsbD 0 = false ∧
    (bytesFrom (placePc 0xFFFFFFFFFFFFFFFE (.pair 0x0210 0x2345)) 4).all (canRead State.reset.params) = true ∧
    decodeCode State.reset.params.ext (.pair 0x0210 0x2345) = .ok (.cMovi20 0x12345 2) ∧
    decodeCode State.reset.params.ext (.half 0x0009) = .ok .cNop ∧
    decodeCode State.reset.params.ext (.word 0x6FF0FFF0) = .ok .mNop := by
  refine ⟨?_, ?_, ?_, ?_, ?_⟩
  · rfl
  · decide +kernel
  · rfl
  · rfl
  · rfl

theorem witness_DecodeOfEncode : admits CompactExt.decided (.cDivu 3) = true ∧ admits CompactExt.decided .mNop = true := by
  decide

theorem witness_EncodeOfDecode :
    decodeCode CompactExt.decided (.word 0x6FF0FFF0) = .ok .mNop ∧ decodeCode CompactExt.decided (.half 0x0009) = .ok .cNop :=
  ⟨rfl, rfl⟩

theorem witness_DelayedBranchTakesTwoSteps :
    branching.pending = none ∧ branching.fetch = .ok (.half 0xA002) ∧
    decodeCode branching.params.ext (.half 0xA002) = .ok (.cBra 2) ∧ branching.entryUnwritten = false ∧
    branching.readsUnwritten (.cBra 2) = false ∧
    exec (.cBra 2) { branching with dstate := .executing } = .next inSlot ∧ inSlot.dstate = .fetching ∧
    inSlot.pending = some ⟨8, false⟩ ∧ inSlot = branching.recordWrites (.cBra 2) inSlot ∧
    inSlot.fetch = .ok (.half 0x0009) ∧ decodeCode inSlot.params.ext (.half 0x0009) = .ok .cNop ∧
    slotIllegal .cNop = false ∧ inSlot.entryUnwritten = false ∧ inSlot.readsUnwritten .cNop = false ∧
    exec .cNop { inSlot with dstate := .executing } = .next { inSlot with pc := 4, dstate := .fetching, event := .none } := by
  refine ⟨?_, ?_, ?_, ?_, ?_, ?_, ?_, ?_, ?_, ?_, ?_, ?_, ?_, ?_, ?_⟩ <;> rfl

theorem witness_ByteOrderOfAccesses :
    (7 : Nat) < 8 ∧ (0x108 : Quad) ∉ bytesFrom 0x100 8 ∧ (0xFF : Quad) ∉ bytesFrom 0x100 2 ∧
    (0x104 : Quad) ∉ bytesFrom 0x100 4 := by decide +kernel

theorem witness_AccessChecks :
    (8 : Nat) ∈ [1, 2, 4, 8] ∧ (0x1FF : Quad).toNat % 1 = 0 ∧ (0xFC : Quad).toNat % 4 = 0 ∧
    walled.readFault 0xFC 4 = some 0xFC ∧ walled.readFault 0x1FC 4 = none ∧ walled.writeFault 0x1FC 4 = some 0x1FC ∧
    (0x102 : Quad).toNat % 4 ≠ 0 ∧ State.reset.params.misaligned = .fault ∧ splitting.params.misaligned = .split ∧
    splitting.readFault 0x101 8 = none := by decide +kernel

/-- 20 R85, log 17: a split access that faults, across the end of the readable region; a write faults at its first byte. -/
theorem witness_AccessChecks_split_fault :
    splitWalled.params.misaligned = .split ∧ (0x1FD : Quad).toNat % 8 ≠ 0 ∧ (0x200 : Quad) = 0x1FD + BitVec.ofNat 64 3 ∧
    splitWalled.readFault 0x1FD 8 = some 0x200 ∧ splitWalled.readFault 0xFD 8 = some 0xFD ∧
    splitWalled.writeFault 0x1FD 8 = some 0x1FD := by decide +kernel

theorem witness_DataFaultsChangeNothing :
    (with1 2).readFault (sext64 ((with1 2).r 1)) 4 = some 2 ∧ walled.readFault (walled.g 1 + walled.g 2) 8 = some 0 ∧
    (62 : MReg).toNat % 2 = 0 ∧ (0x7FF : BitVec 12).toNat < 2 ^ 11 ∧
    walled.readFault (sext64 (walled.r 1 + BitVec.ofNat 32 (0x7FF * 4))) 4 = some 0x1FFC ∧ walled.fpSZ = false ∧
    walled.readFault (sext64 (walled.r 0 + walled.r 1)) 4 = some 0 ∧
    (with1 2).writeFault (sext64 ((with1 2).r 1 - 4)) 4 = some 0xFFFFFFFFFFFFFFFE ∧
    walled.writeFault (walled.g 1 + walled.g 2) 8 = some 0 ∧
    walled.writeFault (sext64 (walled.r 1 + BitVec.ofNat 32 (0x7FF * 4))) 4 = some 0x1FFC ∧
    walled.writeFault (sext64 (walled.r 1 - 4)) 4 = some 0xFFFFFFFFFFFFFFFC := by decide +kernel

theorem witness_DataFaultsChangeNothing_second :
    (walled.setR 1 0x100).readFault (sext64 ((walled.setR 1 0x100).r 1)) 4 = none ∧
    (walled.setR 1 0x100).readFault
      (sext64 (if (0 : CReg) = 1 then (walled.setR 1 0x100).r 1 + BitVec.ofNat 32 4 else (walled.setR 1 0x100).r 0)) 4 =
        some 0 ∧
    (walled.setR 1 0x1FC).readFault (sext64 ((walled.setR 1 0x1FC).r 1)) 4 = none ∧
    (walled.setR 1 0x1FC).readFault
      (sext64 (if (1 : CReg) = 1 then (walled.setR 1 0x1FC).r 1 + BitVec.ofNat 32 4 else (walled.setR 1 0x1FC).r 1)) 4 =
        some 0x200 ∧
    (walled.setR 1 0x1FF).readFault (sext64 ((walled.setR 1 0x1FF).r 1)) 1 = none ∧
    (walled.setR 1 0x1FF).writeFault (sext64 ((walled.setR 1 0x1FF).r 1)) 1 = some 0x1FF := by decide +kernel

theorem witness_DataFaultsChangeNothing_pairs :
    wide.fpSZ = true ∧ wide.pairFault wide.readFault 4 = some 4 ∧ wide.pairFault wide.writeFault 0xFFFFFFFFFFFFFFFC =
      some 0xFFFFFFFFFFFFFFFC ∧
    splitWalled.pairFault splitWalled.readFault 0x1FC = some 0x200 ∧
    walled.pairFault walled.readFault (sext64 (walled.r 1 + BitVec.ofNat 32 (0x7FF * 8))) = some 0x3FF8 ∧
    walled.pairFault walled.writeFault (walled.g 1 + walled.g 2) = some 0 := by decide +kernel

theorem firstFault_of_all {f : Quad → Nat → Option Quad} {l : List Quad} {x : Quad}
    (h : (l.contains x && f x 1 == some x && l.all fun y => !decide (y.toNat < x.toNat) || f y 1 == none) = true) :
    FirstFault f l x := by
  simp only [Bool.and_eq_true, List.contains_iff_mem, beq_iff_eq, List.all_eq_true, Bool.or_eq_true, Bool.not_eq_true',
    decide_eq_false_iff_not] at h
  exact ⟨h.1.1, h.1.2, fun y hy hl => (h.2 y hy).resolve_left (not_not_intro hl)⟩

theorem witness_DataFaultsChangeNothing_bytes :
    ((walled.setR 1 0x1FE).readFault 0x200 1 = some 0x200 ∧
      (0x200 : Quad) = sext64 ((walled.setR 1 0x1FE).r 1) + BitVec.ofNat 64 2 ∧
      ∀ b < 2, (walled.setR 1 0x1FE).readFault (sext64 ((walled.setR 1 0x1FE).r 1) + BitVec.ofNat 64 b) 1 = none) ∧
    FirstFault oddWalled.readFault (blockPart (oddWalled.endian == .little) 0x107 8) 0x100 ∧
    FirstFault oddWalled.readFault (blockPart (oddWalled.endian == .big) 0x202 4) 0x203 ∧
    FirstFault oddWalled.writeFault (blockPart (oddWalled.endian == .little) 0x103 4) 0x100 ∧
    FirstFault oddWalled.writeFault (blockPart (oddWalled.endian == .big) 0x103 4) 0x103 := by
  refine ⟨by decide +kernel, ?_, ?_, ?_, ?_⟩ <;> exact firstFault_of_all (by decide +kernel)

theorem witness_InvariantKeptByEveryStep : State.reset.mem.wf = true ∧ (nextOf (step branching)).isSome = true :=
  ⟨rfl, rfl⟩

theorem witness_ModeChangesOnlyByTransfers :
    (nextOf (step { inSlot with pending := some ⟨9, true⟩ })).map State.ism = some .media ∧
    (nextOf (step (placeCode State.reset (.word 0x4401FFF0)))).map State.ism = some .compact := by
  constructor <;> rfl

theorem witness_EachEncodingKeepsTheOthersState :
    codeIsm (encode .mNop) = .media ∧ codeIsm (encode .cNop) = .compact ∧
    (nextOf (exec .mNop State.reset)).isSome = true ∧ (nextOf (exec .cNop State.reset)).isSome = true := by
  refine ⟨?_, ?_, ?_, ?_⟩ <;> rfl

/-- A real step, from a state whose mark is set. -/
theorem witness_StepsKeepWhatIsFixed : marked.refused ≠ none ∧ StepsTo 1 marked { inSlot with refused := marked.refused } :=
  ⟨by decide, _, rfl, rfl⟩

theorem witness_FpNansZerosAndInfinities :
    binary32.nan (0x7F800001 : Word).toNat = true ∧ binary32.nan (0xFFC00000 : Word).toNat = true ∧
    binary32.finite (0x7F7FFFFF : Word).toNat = true ∧ binary32.finite (1 : Word).toNat = true ∧
    (0x80000001 : Word).msb = true ∧ (0x80000001 : Word) ≠ 0x80000000 ∧ (0x7F7FFFFF : Word).extractLsb' 0 31 ≠ 0 ∧
    binary64.nan (0x7FF0000000000001 : Quad).toNat = true ∧ binary64.finite (0x7FEFFFFFFFFFFFFF : Quad).toNat = true ∧
    (0x8000000000000001 : Quad).msb = true ∧ (0x8000000000000001 : Quad).extractLsb' 0 63 ≠ 0 := by decide +kernel

/-- 48 R731, R734: the two sides of the overflow limit are both reached by finite operands. -/
theorem witness_FpSumsAndProductsRound :
    binary32.finite (0x7F7FFFFF : Word).toNat = true ∧ binary32.finite (0x00000001 : Word).toNat = true ∧
    binary64.finite (0x7FEFFFFFFFFFFFFF : Quad).toNat = true ∧
    binary32.limit ≤ |binary32.value 0x7F7FFFFF + binary32.value 0x7F7FFFFF| ∧
    |binary32.value 1 * binary32.value 0x7F7FFFFF + binary32.value 1| < binary32.limit := by decide +kernel

theorem witness_FpQuotientsAndRootsRound :
    binary32.value (0x00000001 : Word).toNat ≠ 0 ∧ 0 ≤ binary32.value (0x80000000 : Word).toNat ∧
    binary64.value (0x8000000000000001 : Quad).toNat ≠ 0 ∧ 0 ≤ binary64.value (0x7FEFFFFFFFFFFFFF : Quad).toNat := by
  decide +kernel

theorem witness_FpConversionsAndComparisons :
    binary32.finite (0xBF800000 : Word).toNat = true ∧ truncated (binary32.value (0xBFC00000 : Word).toNat) = -1 ∧
    binary32.finite (0x7F800000 : Word).toNat = false ∧
    truncated (binary64.value (0xC1E0000000000000 : Quad).toNat) = -2 ^ 31 ∧
    truncated (binary64.value (0x41E0000000000000 : Quad).toNat) = 2 ^ 31 := by decide +kernel

theorem witness_FpDotProductsMeetConstraints :
    binary32.nan ((four 0x7F800001 0 0 0)[(0 : Fin 4)]).toNat = true ∧
    (four 0x7F800000 0 0 0)[(0 : Fin 4)].toNat ∈ [binary32.infinity false, binary32.infinity true] ∧
    binary32.finite ((four 0x3F800000 0 0 0)[(0 : Fin 4)]).toNat = true ∧
    (IsSingle (binary32.value 0x3F800000 * binary32.value 0x3F800000) ∧ IsSingle (binary32.value 0 * binary32.value 0)) := by
  refine ⟨by decide +kernel, by decide +kernel, by decide +kernel, ⟨0x3F800000, ?_⟩, ⟨0, ?_⟩⟩ <;> decide +kernel

theorem witness_UnwrittenReadsAreRefused :
    fresh.params.resetState = .unwritten ∧ fresh.written.get .pc = 0 ∧
    adding.params.resetState = .unwritten ∧ adding.written.get .pc = BitVec.allOnes 64 ∧ adding.written.get .ism = 1 ∧
    adding.fetch = .ok (.half 0x321E) ∧ decodeCode adding.params.ext (.half 0x321E) = .ok (.cAddc 1 2) ∧
    adding.pending = none ∧ adding.written.hasAll (access (.cAddc 1 2) adding).reads = false ∧
    (writeReg adding 1 .flagT).written.hasAll (access (.cAddc 1 2) (writeReg adding 1 .flagT)).reads = true ∧
    adding.params.storage = .aliased ∧ adding.fpPR = false ∧ adding.fpFR = false := by
  refine ⟨?_, ?_, ?_, ?_, ?_, ?_, ?_, ?_, ?_, ?_, ?_, ?_, ?_⟩ <;> rfl

theorem witness_WrittenBitsCoverChanges :
    (nextOf (step (placeCode fresh (.half 0x0018)))).map State.dstate = some .fetching ∧
    (nextOf (step (writeReg adding 1 .flagT))).map State.dstate = some .fetching ∧
    (placeCode fresh (.half 0x0018)).pending = none ∧
    (nextOf (step (writeReg (placeCode fresh (.half 0x0117)) 7 (.gr 1)))).map State.dstate = some .fetching ∧
    (nextOf (step (writeReg (placeCode fresh (.half 0x412E)) 7 (.gr 1)))).map State.dstate = some .fetching := by
  refine ⟨?_, ?_, ?_, ?_, ?_⟩ <;> rfl

/-- With the compact special registers kept apart. -/
theorem witness_WrittenBitsCoverChanges_separate :
    separately.params.storage = .separate ∧ separately.params.resetState = .unwritten ∧
    (nextOf (step separately)).map (fun t => (t.dstate, t.written.macl)) = some (.fetching, BitVec.allOnes 32) := by
  refine ⟨?_, ?_, ?_⟩ <;> rfl

/-! The test vectors of 70 R902 (spec 95): under `RESET_STATE = unwritten`, after `Reset()`. -/

/-- V-70-01. -/
theorem test_V_70_01 : readReg fresh (.gr 1) = 0 ∧ fresh.refused = none := by decide +kernel

/-- V-70-02: no PC was written. -/
theorem test_V_70_02 : (nextOf (step fresh)).map (fun t => (t.event, t.refused)) =
    some (.invalidInstruction 0, some ⟨.unwritten, 0⟩) := by rfl

/-- V-70-04: addc reads T. -/
theorem test_V_70_04 : (nextOf (step adding)).map (fun t => (t.event, t.refused)) =
    some (.invalidInstruction 0x1000, some ⟨.unwritten, 0x1000⟩) := by rfl

/-- V-70-05: movt after clrt. -/
theorem test_V_70_05 :
    ((nextOf (step (((writeReg fresh 0x1000 .pc).write16 0x1000 0x0008).write16 0x1002 0x0129))).bind fun t =>
      nextOf (step t)).map (fun t => (t.event, t.g 1, t.written.get (.gr 1), t.written.sr)) =
    some (.none, 0, BitVec.allOnes 64, 1) := by rfl

theorem witness_CompactSpecialWritesAndTransfers :
    ({ State.reset with params := { Params.decided with storage := .aliased } } : State).params.storage = .aliased := rfl

end Sys2Proof.Machine
end

section
/-! SUPPORT. What an instruction can do, said once for each encoding: the updates of the state that its meaning is built from, the
ways it can end, and that every meaning ends in one of them. What an encoding leaves alone and what no step changes follow by
induction on these updates. -/

namespace Sys2Proof.Machine

/-! ### The updates of each encoding -/

/-- The untagged targets of a compact delayed branch: the address after the slot, or one relative to PC (42 R370, R371). -/
def State.plainTarget (s : State) (v : Quad) : Prop := v = s.pc + 4 ∨ ∃ (k : Nat) (disp : BitVec k), v = s.branchRel disp

/-- The states that a compact meaning builds from `s`, update by update. -/
inductive CompactWrites (s : State) : State → Prop
  | start : CompactWrites s s
  | reg {u : State} (n : CReg) (v : Word) (h : CompactWrites s u) : CompactWrites s (u.setR n v)
  | status {u : State} (v : Word) (h : CompactWrites s u) : CompactWrites s { u with sr := v }
  | single {u : State} {i : MReg} (v : Word) (hi : i.toNat < 32) (h : CompactWrites s u) : CompactWrites s (u.setF i v)
  | fpscr {u : State} (v : Word) (h : CompactWrites s u) : CompactWrites s (u.setFpscr v)
  | bankSwitch {u : State} (h : CompactWrites s u) : CompactWrites s { u with fpscr := u.fpscr ^^^ 0x00200000#32 }
  | sizeSwitch {u : State} (h : CompactWrites s u) : CompactWrites s { u with fpscr := u.fpscr ^^^ 0x00100000#32 }
  | gbr {u : State} (v : Word) (h : CompactWrites s u) : CompactWrites s (u.setGbr v)
  | vbr {u : State} (v : Word) (h : CompactWrites s u) : CompactWrites s (u.setVbr v)
  | mach {u : State} (v : Word) (h : CompactWrites s u) : CompactWrites s (u.setMach v)
  | macl {u : State} (v : Word) (h : CompactWrites s u) : CompactWrites s (u.setMacl v)
  | pr {u : State} (v : Word) (h : CompactWrites s u) : CompactWrites s (u.setPr v)
  | fpul {u : State} (v : Word) (h : CompactWrites s u) : CompactWrites s (u.setFpul v)
  | draw {u : State} (n : Nat) (h : CompactWrites s u) : CompactWrites s { u with draws := n }
  | store8 {u : State} (a : Quad) (b : Byte) (h : CompactWrites s u) : CompactWrites s (u.write8 a b)
  | store16 {u : State} (a : Quad) (v : Half) (h : CompactWrites s u) : CompactWrites s (u.write16 a v)
  | store32 {u : State} (a : Quad) (v : Word) (h : CompactWrites s u) : CompactWrites s (u.write32 a v)
  | next {u : State} {size : Quad} (hs : size = 2 ∨ size = 4) (h : CompactWrites s u) :
      CompactWrites s (u.setPC (u.pc + size))
  | jump {k : Nat} (disp : BitVec k) : CompactWrites s (s.setPC (s.branchRel disp))
  | pending {u : State} {v : Quad} {tagged : Bool} (hv : tagged = true ∨ s.plainTarget v) (h : CompactWrites s u) :
      CompactWrites s { u with pending := some ⟨v, tagged⟩ }

/-- The states that the media meaning of `i` builds from `s`, update by update. -/
inductive MediaWrites (i : Instr) (s : State) : State → Prop
  | start : MediaWrites i s s
  | reg {u : State} (d : MReg) (v : Quad) (h : MediaWrites i s u) : MediaWrites i s (u.setG d v)
  | targetReg {u : State} (a : TReg) (v : Quad) (h : MediaWrites i s u) : MediaWrites i s (u.setTr a v)
  | control {u : State} {m k : MReg} (v : Quad) (hi : i = .mPutcon m k) (h : MediaWrites i s u) :
      MediaWrites i s (u.setC k v)
  | single {u : State} (d : MReg) (v : Word) (h : MediaWrites i s u) : MediaWrites i s (u.setF d v)
  | fpscr {u : State} (v : Word) (h : MediaWrites i s u) : MediaWrites i s (u.setFpscr v)
  | store8 {u : State} (a : Quad) (b : Byte) (h : MediaWrites i s u) : MediaWrites i s (u.write8 a b)
  | store16 {u : State} (a : Quad) (v : Half) (h : MediaWrites i s u) : MediaWrites i s (u.write16 a v)
  | store32 {u : State} (a : Quad) (v : Word) (h : MediaWrites i s u) : MediaWrites i s (u.write32 a v)
  | store64 {u : State} (a : Quad) (v : Quad) (h : MediaWrites i s u) : MediaWrites i s (u.write64 a v)
  | next {u : State} (h : MediaWrites i s u) : MediaWrites i s (u.setPC (u.pc + 4))
  | transfer {u : State} (a : TReg) (h : MediaWrites i s u) : MediaWrites i s (u.setPCTagged (s.t a))

/-! ### How a meaning ends -/

/-- A meaning that starts in `s` completes normally in a state that `W` admits, or reports one of the events of 60 R851 to R856. -/
inductive Ends (W : State → Prop) (s : State) : State → Prop
  | completed {u : State} (h : W u) : Ends W s { u with dstate := .fetching, event := .none }
  | invalid : Ends W s { s with dstate := .faulted, event := .invalidInstruction s.taggedPC }
  | memoryFault (a : Quad) : Ends W s { s with dstate := .faulted, event := .memoryFault a s.taggedPC }
  | refused (w : RefuseReason) : Ends W s { s with
      dstate := .faulted
      event := .invalidInstruction s.taggedPC
      refused := some (s.refused.getD ⟨w, s.taggedPC⟩) }
  | trapped (code : TrapCode) {size : Quad} (hs : size = 2 ∨ size = 4) : Ends W s { s with
      pc := s.pc + size
      dstate := .trapped
      event := .explicitTrap code (tagPc (s.pc + size) s.ism) }

/-- What a compact meaning that starts in `s` answers. -/
abbrev CompactAnswer (s : State) (r : Result) : Prop := Answers (Ends (CompactWrites s) s) r

/-- What the media meaning of `i` that starts in `s` answers. -/
abbrev MediaAnswer (i : Instr) (s : State) (r : Result) : Prop := Answers (Ends (MediaWrites i s) s) r

section
variable {W : State → Prop} {s : State}

theorem Answers.completed {u : State} (h : W u) : Answers (Ends W s) u.complete := ⟨_, rfl, .completed h⟩

theorem Answers.invalid : Answers (Ends W s) s.invalid := ⟨_, rfl, .invalid⟩

theorem Answers.memoryFault (a : Quad) : Answers (Ends W s) (s.memoryFault a) := ⟨_, rfl, .memoryFault a⟩

theorem Answers.refuse (w : RefuseReason) : Answers (Ends W s) (s.refuse w) := ⟨_, rfl, .refused w⟩

theorem Answers.trap2 (code : TrapCode) : Answers (Ends W s) (s.trap code 2) := ⟨_, rfl, .trapped code (.inl rfl)⟩

theorem Answers.trap4 (code : TrapCode) : Answers (Ends W s) (s.trap code 4) := ⟨_, rfl, .trapped code (.inr rfl)⟩

/-! The shared operations of Laws/Ops.lean, where the fault they can report is one of the ends. -/

theorem Answers.read {a : Quad} {n : Nat} {k : Result} (hk : Answers (Ends W s) k) :
    Answers (Ends W s) (s.checkRead a n k) := .checkRead (fun x _ => .memoryFault x) fun _ => hk

theorem Answers.write {a : Quad} {n : Nat} {k : Result} (hk : Answers (Ends W s) k) :
    Answers (Ends W s) (s.checkWrite a n k) := .checkWrite (fun x _ => .memoryFault x) fun _ => hk

theorem Answers.reads {as : List Quad} {k : Result} (hk : Answers (Ends W s) k) : Answers (Ends W s) (s.checkReads as k) :=
  .checkReads .memoryFault hk

theorem Answers.writes {as : List Quad} {k : Result} (hk : Answers (Ends W s) k) : Answers (Ends W s) (s.checkWrites as k) :=
  .checkWrites .memoryFault hk

theorem Answers.readPair {a : Quad} {k : Quad → Result} (hk : ∀ v, Answers (Ends W s) (k v)) :
    Answers (Ends W s) (s.loadPair a k) := .loadPair .memoryFault hk

theorem Answers.writePair {a : Quad} {k : Result} (hk : Answers (Ends W s) k) : Answers (Ends W s) (s.checkPair a k) :=
  .checkPair .memoryFault hk

theorem Answers.need {b : Bool} {k : Result} (hk : Answers (Ends W s) k) : Answers (Ends W s) (s.require b k) :=
  .require .invalid fun _ => hk

/-- A meaning that depends on a condition ends as each of its branches does. -/
theorem Answers.ite {c : Prop} [Decidable c] {k k' : Result} (hk : Answers (Ends W s) k) (hk' : Answers (Ends W s) k') :
    Answers (Ends W s) (if c then k else k') := by
  split
  · exact hk
  · exact hk'

end

/-! ### Compound updates -/

section
variable {s u : State}

theorem CompactWrites.setT (b : Bool) (h : CompactWrites s u) : CompactWrites s (u.setT b) := h.status _
theorem CompactWrites.setS (b : Bool) (h : CompactWrites s u) : CompactWrites s (u.setS b) := h.status _
theorem CompactWrites.setQ (b : Bool) (h : CompactWrites s u) : CompactWrites s (u.setQ b) := h.status _
theorem CompactWrites.setM (b : Bool) (h : CompactWrites s u) : CompactWrites s (u.setM b) := h.status _

theorem CompactWrites.mac (v : Quad) (h : CompactWrites s u) : CompactWrites s (u.setMac v) := (h.mach _).macl _

theorem CompactWrites.storePair (a v : Quad) (h : CompactWrites s u) : CompactWrites s (u.writePair a v) :=
  (h.store32 _ _).store32 _ _

/-- 40 R229, R230: the two bases of mac.l and mac.w advance. -/
theorem CompactWrites.macAdvance (m n : CReg) (size : Word) : CompactWrites s (macAdvance s m n size) :=
  (start.reg _ _).reg _ _

/-- The physical number of `FRn` (10 R50). -/
theorem State.bank_toNat (s : State) (n : CReg) : (s.bank n).toNat = 16 * s.fpFR.toNat + n.toNat := by
  unfold State.bank
  generalize s.fpFR = b
  revert b n; decide

/-- The physical number of `XFn` (10 R50). -/
theorem State.otherBank_toNat (s : State) (n : CReg) : (s.otherBank n).toNat = 16 * (1 - s.fpFR.toNat) + n.toNat := by
  unfold State.otherBank
  generalize s.fpFR = b
  revert b n; decide

theorem State.bank_lt (s : State) (n : CReg) : (s.bank n).toNat < 32 := by
  have hn := n.isLt
  have hfr := Bool.toNat_le s.fpFR
  rw [s.bank_toNat]; omega

/-- A DR view has an even field (43 R431), so both its registers lie in FR0 to FR31. -/
theorem State.bank_even_lt (s : State) {n : CReg} (hn : evenC n = true) : (s.bank n).toNat < 31 := by
  have hlt : n.toNat < 15 := by revert n; decide
  have hfr := Bool.toNat_le s.fpFR
  rw [s.bank_toNat]; omega

/-- The first register of an FMOV view has an even number in either bank (10 R52). -/
theorem State.fmovBase_lt (s : State) (n : CReg) : (s.fmovBase n).toNat < 31 := by
  unfold State.fmovBase State.bank State.otherBank
  generalize s.fpFR = b
  revert b n; decide

/-- The first register of an FV view has a number divisible by 4 (10 R50). -/
theorem State.bank_fvField_lt (s : State) (n : BitVec 2) : (s.bank (fvField n 0)).toNat < 29 := by
  have hlt : (fvField n 0).toNat < 13 := by revert n; decide
  have hfr := Bool.toNat_le s.fpFR
  rw [s.bank_toNat]; omega

theorem toNat_add_lt {i : MReg} (k : Nat) {bound : Nat} (hi : i.toNat + k < bound) (hk : k < 64) :
    (i + BitVec.ofNat 6 k).toNat < bound := by
  rw [BitVec.toNat_add, BitVec.toNat_ofNat]; omega

theorem CompactWrites.pair {i : MReg} (v : Quad) (hi : i.toNat < 31) (h : CompactWrites s u) : CompactWrites s (u.setD i v) :=
  (h.single _ (by omega)).single _ (toNat_add_lt 1 (by omega) (by decide))

theorem CompactWrites.vector {i : MReg} (x : Nat → Word) (hi : i.toNat < 29) (h : CompactWrites s u) :
    CompactWrites s (u.setFv i x) :=
  (((h.single _ (by omega)).single _ (toNat_add_lt 1 (by omega) (by decide))).single _
    (toNat_add_lt 2 (by omega) (by decide))).single _
    (toNat_add_lt 3 (by omega) (by decide))

theorem CompactWrites.bankSingle (n : CReg) (v : Word) (h : CompactWrites s u) : CompactWrites s (u.setCf n v) :=
  h.single v (u.bank_lt n)

theorem CompactWrites.bankPair {n : CReg} (v : Quad) (hn : evenC n = true) (h : CompactWrites s u) :
    CompactWrites s (u.setCd n v) := h.pair v (u.bank_even_lt hn)

theorem CompactWrites.fmovPair (n : CReg) (v : Quad) (h : CompactWrites s u) : CompactWrites s (u.setD (u.fmovBase n) v) :=
  h.pair v (u.fmovBase_lt n)

theorem evenC_drField (n : BitVec 3) : evenC (drField n) = true := by revert n; decide

variable {i : Instr}

theorem MediaWrites.pair (d : MReg) (v : Quad) (h : MediaWrites i s u) : MediaWrites i s (u.setD d v) :=
  (h.single _ _).single _ _

theorem MediaWrites.vector (d : MReg) (x : Nat → Word) (h : MediaWrites i s u) : MediaWrites i s (u.setFv d x) :=
  (((h.single _ _).single _ _).single _ _).single _ _

theorem MediaWrites.storePair (a v : Quad) (h : MediaWrites i s u) : MediaWrites i s (u.writePair a v) :=
  (h.store32 _ _).store32 _ _

/-- The bytes of a misaligned-pair store (46 R659) are one-byte stores. -/
theorem MediaWrites.scatter (plan : List (Quad × Nat)) (v : Quad) (h : MediaWrites i s u) :
    MediaWrites i s (u.scatter plan v) := by
  induction plan generalizing u with
  | nil => exact h
  | cons p plan ih => exact ih (h.store8 _ _)

end

/-! ### The shapes of the compact meanings -/

section
variable {s u : State}

theorem compact_retire2 (h : CompactWrites s u) : CompactAnswer s (u.retire 2) := .completed (h.next (.inl rfl))

theorem compact_retire4 (h : CompactWrites s u) : CompactAnswer s (u.retire 4) := .completed (h.next (.inr rfl))

theorem compact_putR {n : CReg} {v : Word} : CompactAnswer s (s.putR n v) := compact_retire2 (.reg _ _ .start)

theorem compact_putT {b : Bool} : CompactAnswer s (s.putT b) := compact_retire2 (.setT _ .start)

theorem compact_putRT {n : CReg} {v : Word} {b : Bool} : CompactAnswer s (s.putRT n v b) :=
  compact_retire2 (.setT _ (.reg _ _ .start))

theorem compact_putInc {m n : CReg} {size v : Word} : CompactAnswer s (s.putInc m n size v) := by
  unfold State.putInc
  split
  · exact compact_retire2 (.reg _ _ .start)
  · exact compact_retire2 (.reg _ _ (.reg _ _ .start))

theorem compact_popWith {m : CReg} {f : State → Word → State}
    (hf : ∀ (u : State) (v : Word), CompactWrites s u → CompactWrites s (f u v)) : CompactAnswer s (s.popWith m f) :=
  .popWith .memoryFault fun v => compact_retire2 (hf _ v (.reg _ _ .start))

theorem compact_push {n : CReg} {v : Word} : CompactAnswer s (s.push n v) :=
  .push .memoryFault (compact_retire2 (.reg _ _ (.store32 _ _ .start)))

theorem compact_delayedBranch {v : Quad} {tagged : Bool} (hv : tagged = true ∨ s.plainTarget v) (h : CompactWrites s u) :
    CompactAnswer s (u.delayedBranch v tagged) := compact_retire2 (h.pending hv)

theorem State.plainTarget_rel {k : Nat} (disp : BitVec k) : s.plainTarget (s.branchRel disp) := .inr ⟨k, disp, rfl⟩

/-- 42 R376, R378: taken or not, a conditional delayed branch goes on at a plain target. -/
theorem State.plainTarget_ite {c : Prop} [Decidable c] {v w : Quad} (hv : s.plainTarget v) (hw : s.plainTarget w) :
    s.plainTarget (if c then v else w) := by
  split
  · exact hv
  · exact hw

theorem compact_movcoL (n : CReg) : CompactAnswer s (execCMovcoL n s) := by
  unfold execCMovcoL
  split
  · exact .refuse _
  · exact compact_retire2 .start

theorem compact_movliL (m : CReg) : CompactAnswer s (execCMovliL m s) := by
  unfold execCMovliL
  split
  · exact .refuse _
  · exact compact_retire2 .start

theorem compact_fpUnary {n : CReg} {f : Word → Word} {g : Quad → Quad} : CompactAnswer s (fpUnary s n f g) := by
  unfold fpUnary
  split
  · exact .require .invalid fun hn => compact_retire2 (.bankPair _ hn .start)
  · exact compact_retire2 (.bankSingle _ _ .start)

theorem compact_fpBinary {m n : CReg} {f : Word → Word → Word} {g : Quad → Quad → Quad} :
    CompactAnswer s (fpBinary s m n f g) := by
  unfold fpBinary
  split
  · refine .require .invalid fun h => ?_
    have hn : evenC n = true := (Bool.and_eq_true_iff.mp h).1
    exact compact_retire2 (.bankPair _ hn .start)
  · exact compact_retire2 (.bankSingle _ _ .start)

theorem compact_fpCompare {m n : CReg} {f : Word → Word → Bool} {g : Quad → Quad → Bool} :
    CompactAnswer s (fpCompare s m n f g) := .ite (.need compact_putT) compact_putT

theorem compact_fmovLoadAt {a : Quad} {n : CReg} {f : State → State}
    (hf : ∀ u, CompactWrites s u → CompactWrites s (f u)) : CompactAnswer s (fmovLoadAt s a n f) :=
  .ite (.readPair fun _ => compact_retire2 (hf _ (.fmovPair _ _ .start)))
    (.read (compact_retire2 (hf _ (.bankSingle _ _ .start))))

theorem compact_fmovStoreAt {a : Quad} {m : CReg} {f : State → State}
    (hf : ∀ u, CompactWrites s u → CompactWrites s (f u)) : CompactAnswer s (fmovStoreAt s a m f) :=
  .ite (.writePair (compact_retire2 (hf _ (.storePair _ _ .start))))
    (.write (compact_retire2 (hf _ (.store32 _ _ .start))))

end

/-! ### The shapes of the media meanings -/

section
variable {i : Instr} {s u : State}

theorem media_retire (h : MediaWrites i s u) : MediaAnswer i s (u.retire 4) := .completed h.next

theorem media_putG {d : MReg} {v : Quad} : MediaAnswer i s (s.putG d v) := media_retire (.reg _ _ .start)

theorem media_branchTr {b : Bool} {a : TReg} : MediaAnswer i s (s.branchTr b a) :=
  .branchTr (fun _ => .completed (.transfer a .start)) fun _ => media_retire .start

end

/-! ### Every meaning ends in one of these ways -/

/-- Every compact instruction, grouped by the shape of its meaning. -/
theorem exec_compact (i : Instr) (s : State) (hi : codeIsm (encode i) = .compact) : CompactAnswer s (exec i s) := by
  cases i with
  -- one general register, T, or both
  | cAdd | cAddImm | cDivu | cExtsB | cExtsW | cExtuB | cExtuW | cMulr | cNeg | cSub | cAnd | cAndImm | cNot | cOr | cOrImm
  | cXor | cXorImm | cShad | cShld | cShll2 | cShll8 | cShll16 | cShlr2 | cShlr8 | cShlr16 | cMov | cMovImm | cMova | cMovt
  | cSwapB | cSwapW | cXtrct | cStcGbr | cStcVbr | cStsMach | cStsMacl | cStsPr | cStsFpscr | cStsFpul => exact compact_putR
  | cMovi20 | cMovi20s => exact compact_retire4 (.reg _ _ .start)
  | cCmpEqImm | cCmpEq | cCmpHs | cCmpGe | cCmpHi | cCmpGt | cCmpPz | cCmpPl | cCmpStr | cTst | cTstImm | cClrt | cSett =>
    exact compact_putT
  | cAddc | cAddv | cDt | cNegc | cSubc | cSubv | cRotl | cRotr | cRotcl | cRotcr | cShal | cShar | cShll | cShlr =>
    exact compact_putRT
  -- the other flags and the special registers
  | cDiv0s | cDiv0u => exact compact_retire2 (.setT _ (.setM _ (.setQ _ .start)))
  | cDiv1 => exact compact_retire2 (.setT _ (.setQ _ (.reg _ _ .start)))
  | cClrs | cSets => exact compact_retire2 (.setS _ .start)
  | cLdcSr => exact compact_retire2 (.status _ .start)
  | cLdcGbr => exact compact_retire2 (.gbr _ .start)
  | cLdcVbr => exact compact_retire2 (.vbr _ .start)
  | cLdsMach => exact compact_retire2 (.mach _ .start)
  | cMulL | cMulsW | cMuluW | cLdsMacl => exact compact_retire2 (.macl _ .start)
  | cDmulsL | cDmuluL | cClrmac => exact compact_retire2 (.mac _ .start)
  | cLdsPr => exact compact_retire2 (.pr _ .start)
  | cFlds | cLdsFpul => exact compact_retire2 (.fpul _ .start)
  | cLdsFpscr => exact compact_retire2 (.fpscr _ .start)
  | cMacL => exact .read (.read (compact_retire2 (.mac _ (.macAdvance _ _ _))))
  | cMacW =>
    exact .read (.read (.ite (compact_retire2 (.draw _ (.mach _ (.macl _ (.macAdvance _ _ _)))))
      (compact_retire2 (.mac _ (.macAdvance _ _ _)))))
  -- special registers through memory
  | cLdcLGbr => exact compact_popWith fun _ v h => h.gbr v
  | cLdcLVbr => exact compact_popWith fun _ v h => h.vbr v
  | cLdsLMach => exact compact_popWith fun _ v h => h.mach v
  | cLdsLMacl => exact compact_popWith fun _ v h => h.macl v
  | cLdsLPr => exact compact_popWith fun _ v h => h.pr v
  | cLdsLFpscr => exact compact_popWith fun _ v h => h.fpscr v
  | cLdsLFpul => exact compact_popWith fun _ v h => h.fpul v
  | cStcLGbr | cStcLVbr | cStsLMach | cStsLMacl | cStsLPr | cStsLFpscr | cStsLFpul => exact compact_push
  -- loads and stores
  | cMovWLoadPc | cMovLLoadPc | cMovBLoad | cMovWLoad | cMovLLoad | cMovBLoadIdx | cMovWLoadIdx | cMovLLoadIdx | cMovBLoadDisp
  | cMovWLoadDisp | cMovLLoadDisp | cMovBLoadGbr | cMovWLoadGbr | cMovLLoadGbr => exact .read compact_putR
  | cMovBLoadInc | cMovWLoadInc | cMovLLoadInc => exact .read compact_putInc
  | cMovuaL => exact .reads compact_putR
  | cMovuaLInc => exact .reads compact_putInc
  | cMovLLoadDisp12 => exact .ite (.refuse _) (.read (compact_retire4 (.reg _ _ .start)))
  | cMovBStore | cMovBStoreIdx | cMovBStoreDisp | cMovBStoreGbr => exact .write (compact_retire2 (.store8 _ _ .start))
  | cMovWStore | cMovWStoreIdx | cMovWStoreDisp | cMovWStoreGbr => exact .write (compact_retire2 (.store16 _ _ .start))
  | cMovLStore | cMovLStoreIdx | cMovLStoreDisp | cMovLStoreGbr | cMovcaL =>
    exact .write (compact_retire2 (.store32 _ _ .start))
  | cMovBStoreDec => exact .write (compact_retire2 (.reg _ _ (.store8 _ _ .start)))
  | cMovWStoreDec => exact .write (compact_retire2 (.reg _ _ (.store16 _ _ .start)))
  | cMovLStoreDec => exact .write (compact_retire2 (.reg _ _ (.store32 _ _ .start)))
  | cMovLStoreDisp12 => exact .ite (.refuse _) (.write (compact_retire4 (.store32 _ _ .start)))
  | cAndB | cOrB | cXorB => exact .read (.write (compact_retire2 (.store8 _ _ .start)))
  | cTasB => exact .read (.write (compact_retire2 (.store8 _ _ (.setT _ .start))))
  | cTstB => exact .read compact_putT
  -- branches, traps, hints and refusals
  | cBf => exact .ite (compact_retire2 .start) (.completed (.jump _))
  | cBt => exact .ite (.completed (.jump _)) (compact_retire2 .start)
  | cBfS => exact compact_delayedBranch (.inr (State.plainTarget_ite (.inl rfl) (State.plainTarget_rel _))) .start
  | cBtS => exact compact_delayedBranch (.inr (State.plainTarget_ite (State.plainTarget_rel _) (.inl rfl))) .start
  | cBra => exact compact_delayedBranch (.inr (State.plainTarget_rel _)) .start
  | cBsr => exact compact_delayedBranch (.inr (State.plainTarget_rel _)) (.pr _ .start)
  | cBraf | cJmp | cRts => exact compact_delayedBranch (.inl rfl) .start
  | cBsrf | cJsr => exact compact_delayedBranch (.inl rfl) (.pr _ .start)
  | cTrapa | cBrk => exact .trap2 _
  | cNop | cPref | cOcbi | cOcbp | cOcbwb => exact compact_retire2 .start
  | cMovcoL n => exact compact_movcoL n
  | cMovliL m => exact compact_movliL m
  -- floating point
  | cFabs | cFneg | cFsqrt => exact compact_fpUnary
  | cFadd | cFsub | cFmul | cFdiv => exact compact_fpBinary
  | cFcmpEq | cFcmpGt => exact compact_fpCompare
  | cFsts => exact compact_retire2 (.bankSingle _ _ .start)
  | cFmac | cFldi0 | cFldi1 | cFipr => exact .need (compact_retire2 (.bankSingle _ _ .start))
  | cFloat =>
    exact .ite (.require .invalid fun hn => compact_retire2 (.bankPair _ hn .start)) (compact_retire2 (.bankSingle _ _ .start))
  | cFtrc => exact .ite (.need (compact_retire2 (.fpul _ .start))) (compact_retire2 (.fpul _ .start))
  | cFcnvsd n => exact .need (compact_retire2 (.bankPair _ (evenC_drField n) .start))
  | cFcnvds => exact .need (compact_retire2 (.fpul _ .start))
  | cFtrv n => exact .need (compact_retire2 (.vector _ (s.bank_fvField_lt n) .start))
  | cFrchg => exact .need (compact_retire2 (.bankSwitch .start))
  | cFschg => exact .need (compact_retire2 (.sizeSwitch .start))
  | cFmov => exact .ite (compact_retire2 (.fmovPair _ _ .start)) (compact_retire2 (.bankSingle _ _ .start))
  | cFmovLoad | cFmovLoadIdx => exact compact_fmovLoadAt fun _ h => h
  | cFmovLoadInc => exact compact_fmovLoadAt fun _ h => h.reg _ _
  | cFmovLoadDisp12 m disp n =>
    exact .ite (.refuse _) (.readPair fun _ => compact_retire4 (.bankPair _ (evenC_drField n) .start))
  | cFmovStore | cFmovStoreIdx => exact compact_fmovStoreAt fun _ h => h
  | cFmovStoreDec => exact compact_fmovStoreAt fun _ h => h.reg _ _
  | cFmovStoreDisp12 => exact .ite (.refuse _) (.writePair (compact_retire4 (.storePair _ _ .start)))
  | _ => cases hi

/-- Every media instruction, grouped by the shape of its meaning. -/
theorem exec_media (i : Instr) (s : State) (hi : codeIsm (encode i) = .media) : MediaAnswer i s (exec i s) := by
  cases i with
  -- one general register
  | mAdd | mAddL | mAddi | mAddiL | mAddzL | mSub | mSubL | mAnd | mAndc | mAndi | mOr | mOri | mXor | mXori | mCmpeq | mCmpgt
  | mCmpgtu | mNsb | mByterev | mMuluL | mMulsL | mShlld | mShlldL | mShlrd | mShlrdL | mShard | mShardL | mShlli | mShlliL
  | mShlri | mShlriL | mShari | mShariL | mMovi | mShori | mGettr | mGetcon => exact media_putG
  | mMaddW | mMaddL | mMaddsUb | mMaddsW | mMaddsL | mMsubW | mMsubL | mMsubsUb | mMsubsW | mMsubsL | mMabsW | mMabsL | mMcmpeqB
  | mMcmpeqW | mMcmpeqL | mMcmpgtUb | mMcmpgtW | mMcmpgtL | mMcmv | mMcnvsLw | mMcnvsWb | mMcnvsWub | mMextr1 | mMextr2 | mMextr3
  | mMextr4 | mMextr5 | mMextr6 | mMextr7 | mMmacfxWl | mMmacnfxWl | mMmulW | mMmulL | mMmulfxW | mMmulfxL | mMmulfxrpW
  | mMmulhiWl | mMmulloWl | mMmulsumWq | mMpermW | mMsadUbq | mMshaldsW | mMshaldsL | mMshardW | mMshardL | mMshardsQ | mMshlldW
  | mMshlldL | mMshlrdW | mMshlrdL | mMshfloB | mMshfloW | mMshfloL | mMshfhiB | mMshfhiW | mMshfhiL => exact media_putG
  | mFcmpeqS | mFcmpunS | mFcmpgtS | mFcmpgeS => exact media_putG
  | mFcmpeqD | mFcmpunD | mFcmpgtD | mFcmpgeD | mFmovSl | mFmovDq => exact .need media_putG
  | mCmveq => exact .ite media_putG (media_retire .start)
  | mCmvne => exact .ite (media_retire .start) media_putG
  -- loads and stores
  | mLdB | mLdW | mLdL | mLdQ | mLdUb | mLdUw | mLdxB | mLdxW | mLdxL | mLdxQ | mLdxUb | mLdxUw => exact .read media_putG
  | mLdloL | mLdloQ | mLdhiL | mLdhiQ => exact .reads media_putG
  | mStB | mStxB => exact .write (media_retire (.store8 _ _ .start))
  | mStW | mStxW => exact .write (media_retire (.store16 _ _ .start))
  | mStL | mStxL | mFstS | mFstxS => exact .write (media_retire (.store32 _ _ .start))
  | mStQ | mStxQ => exact .write (media_retire (.store64 _ _ .start))
  | mStloL | mStloQ | mSthiL | mSthiQ => exact .writes (media_retire (.scatter _ _ .start))
  | mSwapQ => exact .read (.write (media_retire (.reg _ _ (.store64 _ _ .start))))
  | mFldS | mFldxS => exact .read (media_retire (.single _ _ .start))
  | mFldD | mFldxD => exact .need (.read (media_retire (.pair _ _ .start)))
  | mFldP | mFldxP => exact .need (.readPair fun _ => media_retire (.pair _ _ .start))
  | mFstD | mFstxD => exact .need (.write (media_retire (.store64 _ _ .start)))
  | mFstP | mFstxP => exact .need (.writePair (media_retire (.storePair _ _ .start)))
  -- branches, control registers, traps, hints and refusals
  | mPta | mPtb | mPtabs | mPtrel => exact media_retire (.targetReg _ _ .start)
  | mBlink => exact .completed (.transfer _ (.reg _ _ .start))
  | mBeq | mBge | mBne | mBgt | mBgeu | mBgtu | mBeqi | mBnei => exact media_branchTr
  | mPutcon => exact media_retire (.control _ rfl .start)
  | mTrapa | mBrk => exact .trap4 _
  | mPrefi | mAlloco | mIcbi | mOcbp | mOcbi | mOcbwb | mSynci | mSynco | mNop => exact media_retire .start
  | mGetcfg | mPutcfg | mRte | mSleep => exact .refuse _
  -- floating point
  | mFaddS | mFsubS | mFdivS | mFmulS | mFmacS | mFmovLs | mFgetscr => exact media_retire (.single _ _ .start)
  | mFabsS | mFnegS | mFsqrtS | mFmovS | mFcnvDs | mFtrcSl | mFtrcDl | mFloatLs | mFloatQs | mFiprS =>
    exact .need (media_retire (.single _ _ .start))
  | mFabsD | mFnegD | mFaddD | mFsubD | mFdivD | mFmulD | mFsqrtD | mFmovD | mFcnvSd | mFtrcDq | mFtrcSq | mFloatQd | mFloatLd
  | mFmovQd => exact .need (media_retire (.pair _ _ .start))
  | mFputscr => exact .need (media_retire (.fpscr _ .start))
  | mFtrvS => exact .need (media_retire (.vector _ _ .start))
  | _ => cases hi

end Sys2Proof.Machine
end

section
/-! SUPPORT. The frame of each encoding (10 R31, R36, R39, R45, R54), from the updates its meanings are built from, and what no step
changes (10 R44, 60 R856). -/

namespace Sys2Proof.Machine

/-! ### The frame of each encoding -/

/-- Every register number. -/
def everyReg : List MReg := (List.range 64).map (BitVec.ofNat 6)

theorem mem_everyReg (k : MReg) : k ∈ everyReg := by revert k; decide

/-- Every address: where a store goes depends on the state. -/
@[irreducible] def everyAddress : List Quad := bytesFrom 0 (2 ^ 64)

theorem mem_everyAddress (a : Quad) : a ∈ everyAddress := by
  unfold everyAddress
  exact mem_bytesFrom.2 ⟨a.toNat, a.isLt, by simp⟩

/-- What a compact instruction may change: GR0 to GR18, FR0 to FR32, and neither TR, CR past SR nor the mode (10 R31, R45, R50). -/
def compactParts : Parts where
  gr := everyReg.filter (·.toNat < 19)
  fr := everyReg.filter (·.toNat < 33)
  sr := 0xFFFFFFFF
  fpscr := true
  vbr := true
  gbr := true
  mach := true
  macl := true
  pr := true
  fpul := true
  pending := true
  draws := true
  mem := everyAddress

theorem mem_compactParts_gr {k : MReg} : k ∈ compactParts.gr ↔ k.toNat < 19 := by
  simp [compactParts, mem_everyReg]

theorem mem_compactParts_fr {k : MReg} : k ∈ compactParts.fr ↔ k.toNat < 33 := by
  simp [compactParts, mem_everyReg]

theorem CompactWrites.keeps {s u : State} (h : CompactWrites s u) : Keeps compactParts s u := by
  have mem (a : Quad) (n : Nat) : ∀ x ∈ bytesFrom a n, x ∈ compactParts.mem := fun x _ => mem_everyAddress x
  induction h with
  | start => exact .refl _ s
  | reg n v _ ih => exact ih.setR v (mem_compactParts_gr.2 (Nat.lt_of_lt_of_le (creg_lt n) (by decide)))
  | status v _ ih =>
    exact ih.sr_update fun b hb => by
      by_cases h32 : b < 32
      · interval_cases b <;> simp [compactParts] at hb
      · rw [BitVec.getLsbD_of_ge _ _ (by omega), BitVec.getLsbD_of_ge _ _ (by omega)]
  | single v hi _ ih => exact ih.setF v (mem_compactParts_fr.2 (by omega))
  | fpscr v _ ih => exact ih.setFpscr v rfl
  | bankSwitch _ ih => exact { ih with fpscr := nofun }
  | sizeSwitch _ ih => exact { ih with fpscr := nofun }
  | gbr v _ ih => exact ih.setGbr v (fun _ => mem_compactParts_gr.2 (by decide)) fun _ => rfl
  | vbr v _ ih => exact ih.setVbr v rfl
  | mach v _ ih => exact ih.setMach v (fun _ => mem_compactParts_gr.2 (by decide)) fun _ => rfl
  | macl v _ ih => exact ih.setMacl v (fun _ => mem_compactParts_gr.2 (by decide)) fun _ => rfl
  | pr v _ ih => exact ih.setPr v (fun _ => mem_compactParts_gr.2 (by decide)) fun _ => rfl
  | fpul v _ ih => exact ih.setFpul v (fun _ => mem_compactParts_fr.2 (by decide)) fun _ => rfl
  | draw n _ ih => exact { ih with draws := nofun }
  | store8 a b _ ih => exact ih.write8 b (mem a 1)
  | store16 a v _ ih => exact ih.write16 v (mem a 2)
  | store32 a v _ ih => exact ih.write32 v (mem a 4)
  | next _ _ ih => exact ih.setPC _
  | jump disp => exact (Keeps.refl _ s).setPC _
  | pending _ _ ih => exact { ih with pending := nofun }

/-- What a media instruction may change: no compact special register, no pending branch, and of SR the bits `sr`. -/
def mediaParts (sr : Word) : Parts where
  gr := everyReg
  fr := everyReg
  cr := everyReg
  tr := [0, 1, 2, 3, 4, 5, 6, 7]
  sr := sr
  fpscr := true
  ism := true
  mem := everyAddress

/-- Only putcon to CR0 reaches SR, all of it (10 R35, R36). -/
theorem MediaWrites.keeps {i : Instr} {s u : State} (sr : Word) (hsr : ∀ m, i = .mPutcon m 0 → sr = 0xFFFFFFFF)
    (h : MediaWrites i s u) : Keeps (mediaParts sr) s u := by
  have mem (a : Quad) (n : Nat) : ∀ x ∈ bytesFrom a n, x ∈ (mediaParts sr).mem := fun x _ => mem_everyAddress x
  have tr (a : TReg) : a ∈ (mediaParts sr).tr := by
    show a ∈ [0, 1, 2, 3, 4, 5, 6, 7]
    revert a; decide
  induction h with
  | start => exact .refl _ s
  | reg d v _ ih => exact ih.setG v (mem_everyReg d)
  | targetReg a v _ ih => exact ih.setTr v (tr a)
  | @control u m k v hi _ ih =>
    by_cases h0 : k = 0
    · subst h0
      exact ih.setC_zero v (hsr m hi)
    · exact ih.setC v h0 (mem_everyReg k)
  | single d v _ ih => exact ih.setF v (mem_everyReg d)
  | fpscr v _ ih => exact ih.setFpscr v rfl
  | store8 a b _ ih => exact ih.write8 b (mem a 1)
  | store16 a v _ ih => exact ih.write16 v (mem a 2)
  | store32 a v _ ih => exact ih.write32 v (mem a 4)
  | store64 a v _ ih => exact ih.write64 v (mem a 8)
  | next _ ih => exact ih.setPC _
  | transfer a _ ih => exact ih.setPCTagged _ rfl

/-- However a meaning ends, what its updates keep is kept; the `refused` mark is told apart by `Ends.refused_of_set`. -/
theorem Ends.keeps {W : State → Prop} {p : Parts} {s t : State} (hW : ∀ u, W u → Keeps p s u) (h : Ends W s t) :
    Keeps p s { t with refused := s.refused } := by
  cases h with
  | completed h => exact { hW _ h with refused := rfl }
  | invalid => exact { Keeps.refl p s with }
  | memoryFault a => exact { Keeps.refl p s with }
  | refused w => exact { Keeps.refl p s with }
  | trapped code hs => exact { Keeps.refl p s with }

/-- A refusal leaves a mark that is already set (60 R856, log 13). -/
theorem some_getD_of_ne_none {mark : Option RefusedMark} (h : mark ≠ none) (m : RefusedMark) : some (mark.getD m) = mark := by
  obtain ⟨x, rfl⟩ := Option.ne_none_iff_exists'.mp h
  rfl

theorem Ends.refused_of_set {W : State → Prop} {p : Parts} {s t : State} (hW : ∀ u, W u → Keeps p s u) (h : Ends W s t)
    (hs : s.refused ≠ none) : t.refused = s.refused := by
  cases h with
  | completed h => exact (hW _ h).refused
  | refused w => exact some_getD_of_ne_none hs _
  | _ => rfl

theorem Answers.of_next {P : State → Prop} {r : Result} {t : State} (h : Answers P r) (hr : r = .next t) : P t := by
  obtain ⟨u, hu, hP⟩ := h
  rw [hr] at hu
  cases hu
  exact hP

theorem Ends.media_keeps {i : Instr} {s t : State} (sr : Word) (hsr : ∀ m, i = .mPutcon m 0 → sr = 0xFFFFFFFF)
    (h : Ends (MediaWrites i s) s t) : Keeps (mediaParts sr) s { t with refused := s.refused } :=
  h.keeps fun _ hu => hu.keeps sr hsr

theorem Ends.compact_keeps {s t : State} (h : Ends (CompactWrites s) s t) :
    Keeps compactParts s { t with refused := s.refused } := h.keeps fun _ hu => hu.keeps

/-! ### Registers read one by one determine their file -/

theorem vector_eq_of_getD {α : Type} {n : Nat} {v w : Vector α n} (d : α) (h : ∀ i < n, v.getD i d = w.getD i d) : v = w := by
  refine Vector.ext fun i hi => ?_
  have := h i hi
  simpa [Vector.getD, hi] using this

theorem State.tr_ext {s t : State} (h : ∀ a, t.t a = s.t a) : t.tr = s.tr :=
  vector_eq_of_getD 0 fun i hi => by
    have := h (BitVec.ofNat 3 i)
    simpa only [State.t, BitVec.toNat_ofNat, Nat.mod_eq_of_lt (show i < 2 ^ 3 from hi)] using this

theorem State.cr_ext {s t : State} (h : ∀ k, k ≠ 0 → t.c k = s.c k) : t.cr = s.cr :=
  vector_eq_of_getD 0 fun i hi => by
    have hn : (BitVec.ofNat 6 (i + 1)).toNat = i + 1 := by rw [BitVec.toNat_ofNat]; omega
    have h0 : BitVec.ofNat 6 (i + 1) ≠ 0 := fun he => by rw [he] at hn; cases hn
    have := h _ h0
    simpa only [State.c, if_neg h0, hn, Nat.add_sub_cancel] using this

/-- Settles O51, by the frame of each encoding. -/
theorem eachEncodingKeepsTheOthersState : Obligations.EachEncodingKeepsTheOthersState := by
  intro i s t ht
  constructor
  · intro hi
    have hend := (exec_media i s hi).of_next ht
    have k := hend.media_keeps 0xFFFFFFFF fun _ _ => rfl
    refine ⟨fun hp => ?_, k.vbr rfl, k.gbr rfl, k.mach rfl, k.macl rfl, k.pr rfl, k.fpul rfl, k.pending rfl, k.draws rfl⟩
    have k0 := hend.media_keeps 0 fun m hm => absurd hm (hp m)
    exact BitVec.eq_of_getLsbD_eq fun b _ => k0.sr b (by simp [mediaParts])
  · intro hi
    have k := ((exec_compact i s hi).of_next ht).compact_keeps
    exact ⟨State.tr_ext fun a => k.tr a (by simp [compactParts]), State.cr_ext fun c h0 => k.cr c h0 (by simp [compactParts]),
      k.ism rfl, fun c hc => k.gr c (by rw [mem_compactParts_gr]; omega),
      fun c hc => k.fr c (by rw [mem_compactParts_fr]; omega)⟩

/-! ### What no step changes -/

/-- The byte order and the parameters are those of `s`, and so is a mark that `s` has (10 R44, 60 R856, log 13). -/
structure KeepsFixed (s t : State) : Prop where
  endian : t.endian = s.endian
  params : t.params = s.params
  mark : s.refused ≠ none → t.refused = s.refused

theorem KeepsFixed.trans {s t u : State} (h : KeepsFixed s t) (k : KeepsFixed t u) : KeepsFixed s u where
  endian := k.endian.trans h.endian
  params := k.params.trans h.params
  mark hs := by
    have ht := h.mark hs
    exact (k.mark (ht ▸ hs)).trans ht

theorem Ends.keepsFixed {W : State → Prop} {p : Parts} {s t : State} (hW : ∀ u, W u → Keeps p s u) (h : Ends W s t) :
    KeepsFixed s t :=
  have k := h.keeps hW
  ⟨k.endian, k.params, h.refused_of_set hW⟩

theorem exec_keepsFixed (i : Instr) (s : State) : Answers (KeepsFixed s) (exec i s) := by
  cases hi : codeIsm (encode i) with
  | compact => exact (exec_compact i s hi).imp fun _ h => h.keepsFixed fun _ hu => hu.keeps
  | media => exact (exec_media i s hi).imp fun _ h => h.keepsFixed fun _ hu => hu.keeps 0xFFFFFFFF fun _ _ => rfl

theorem Answers.record {P : State → Prop} {s : State} {i : Instr} {r : Result} (hw : ∀ t, P t → P (s.recordWrites i t))
    (h : Answers P r) : Answers P (s.record i r) := by
  obtain ⟨t, rfl, ht⟩ := h
  by_cases hd : t.dstate = .fetching
  · exact ⟨_, by simp [State.record, hd], hw t ht⟩
  · exact ⟨_, by simp [State.record, hd], ht⟩

theorem Answers.settle {P : State → Prop} {b : Bool} {r : Result} (hc : ∀ t, P t → P t.commitPending) (h : Answers P r) :
    Answers P (settle b r) := by
  obtain ⟨t, rfl, ht⟩ := h
  by_cases hd : (b && t.dstate == .fetching) = true
  · exact ⟨_, by simp only [Machine.settle, hd, if_true], hc t ht⟩
  · exact ⟨_, by simp only [Machine.settle, hd, if_false, Bool.false_eq_true], ht⟩

/-- A step stops at one of its checks, or runs the decoded instruction and settles what it answers (49 R820, 70 R902). -/
theorem step_answers {P : State → Prop} {s : State} (hentry : Answers P s.refuseEntry)
    (hfetch : ∀ a, Answers P (s.memoryFault a)) (hinvalid : Answers P s.invalid) (hrefuse : Answers P (s.refuse .unwritten))
    (hexec : ∀ c i, s.fetch = .ok c → decodeCode s.params.ext c = .ok i →
      Answers P (settle s.pending.isSome (s.record i (exec i { s with dstate := .executing })))) :
    Answers P (step s) := by
  unfold step
  split
  · exact hentry
  split
  · exact hfetch _
  next c hc =>
    split
    · exact hinvalid
    next i hi =>
      split
      · exact hinvalid
      split
      · exact hrefuse
      · exact hexec c i hc hi

theorem KeepsFixed.refuse {s : State} {w : RefuseReason} {pc : Quad} {d : DState} {e : TrapReason} :
    KeepsFixed s { s with dstate := d, event := e, refused := some (s.refused.getD ⟨w, pc⟩) } where
  endian := rfl
  params := rfl
  mark hs := some_getD_of_ne_none hs _

theorem step_keepsFixed (s : State) : Answers (KeepsFixed s) (step s) := by
  refine step_answers ⟨_, rfl, .refuse⟩ (fun _ => ⟨_, rfl, rfl, rfl, fun _ => rfl⟩) ⟨_, rfl, rfl, rfl, fun _ => rfl⟩
    ⟨_, rfl, .refuse⟩ fun _ i _ _ => ?_
  have hexec : Answers (KeepsFixed s) (exec i { s with dstate := .executing }) :=
    (exec_keepsFixed i _).imp fun _ h => ⟨h.endian, h.params, h.mark⟩
  have hrecord (t : State) : KeepsFixed t (s.recordWrites i t) := ⟨by simp, by simp, by simp⟩
  have hcommit (t : State) : KeepsFixed t t.commitPending := ⟨by simp, by simp, by simp⟩
  exact .settle (fun t h => h.trans (hcommit t)) (.record (fun t h => h.trans (hrecord t)) hexec)

/-- Settles O52, by induction on the number of steps. -/
theorem stepsKeepWhatIsFixed : Obligations.StepsKeepWhatIsFixed := by
  have steps (n : Nat) : ∀ s t, StepsTo n s t → KeepsFixed s t := by
    induction n with
    | zero => rintro s _ rfl; exact ⟨rfl, rfl, fun _ => rfl⟩
    | succ n ih =>
      rintro s t ⟨u, hu, ht⟩
      exact ((step_keepsFixed s).of_next hu).trans (ih u t ht)
  intro n s t h
  obtain ⟨endian, params, mark⟩ := steps n s t h
  exact ⟨endian, params, mark⟩

end Sys2Proof.Machine
end

section
/-! SUPPORT. The physical numbers of the compact FP views (10 R50, R52). -/

namespace Sys2Proof.Machine

/-! ### The compact FP views (10 R50, R52) -/

/-- The two registers of a DR view lie in one bank (10 R50). -/
theorem State.bank_add_one (s : State) {n : CReg} (hn : n.toNat % 2 = 0) : s.bank n + 1 = s.bank (n + 1) := by
  unfold State.bank
  generalize s.fpFR = b
  revert b n; decide

theorem getLsbD_zero_iff {w : Nat} {v : BitVec w} : v.getLsbD 0 = true ↔ v.toNat % 2 = 1 := by
  simp only [BitVec.getLsbD, Nat.testBit_zero, decide_eq_true_eq]

theorem State.fmovBase_even (s : State) {n : CReg} (hn : n.toNat % 2 = 0) : s.fmovBase n = s.bank n := by
  rw [State.fmovBase, if_neg]
  rw [getLsbD_zero_iff]; omega

theorem State.fmovBase_odd (s : State) {n : CReg} (hn : n.toNat % 2 = 1) : s.fmovBase n = s.otherBank (n - 1) := by
  rw [State.fmovBase, if_pos (getLsbD_zero_iff.2 hn)]

/-- Settles O16, by the numbers of the two banks and the parity of the field. -/
theorem compactFpViews : Obligations.CompactFpViews := by
  intro s n
  refine ⟨s.bank_toNat n, s.otherBank_toNat n, ?_, fun hn => ⟨?_, s.fmovBase_even hn⟩, s.fmovBase_odd⟩
  · rw [← s.bank_toNat n]; rfl
  · simp only [State.cd, State.d, State.cf, s.bank_add_one hn]

end Sys2Proof.Machine
end

section
/-! SUPPORT. The registers that the host names (10 R57): the stored value read back, and that a written register reads as stored
under either `RESET_STATE` (70 R902). -/

namespace Sys2Proof.Machine

/-! ### A register read after the host stored it (10 R57): the stored value -/

@[simp] theorem storeReg_params (s : State) (v : Quad) (r : RegName) : (storeReg s v r).params = s.params := by
  cases r <;> simp [storeReg]

theorem low32_zext64 (v : Word) : low32 (zext64 v) = v := by simp [low32, zext64]

theorem zext64_low32 (v : Quad) : zext64 (low32 v) = BitVec.ofNat 64 (v.toNat % 2 ^ 32) := by
  apply BitVec.eq_of_toNat_eq
  simp only [zext64, low32, BitVec.toNat_setWidth, BitVec.toNat_ofNat]

/-- 10 R49: FPSCR has 22 bits. -/
theorem zext64_low32_fpscr (v : Quad) : zext64 (low32 v &&& 0x003FFFFF#32) = BitVec.ofNat 64 (v.toNat % 2 ^ 22) := by
  have hmask : (v.toNat % 2 ^ 32) &&& 0x3FFFFF = v.toNat % 2 ^ 32 % 2 ^ 22 := Nat.and_two_pow_sub_one_eq_mod _ 22
  have hconst : (0x003FFFFF#32).toNat = 0x3FFFFF := rfl
  apply BitVec.eq_of_toNat_eq
  simp only [zext64, low32, BitVec.toNat_setWidth, BitVec.toNat_and, BitVec.toNat_ofNat, hconst, hmask]
  omega

theorem truth_getLsbD_zero (v : Quad) : truth 64 (v.getLsbD 0) = BitVec.ofNat 64 (v.toNat % 2) := by
  have hbit : v.getLsbD 0 = decide (v.toNat % 2 = 1) := by simp only [BitVec.getLsbD, Nat.testBit_zero]
  rw [hbit, truth]
  rcases Nat.mod_two_eq_zero_or_one v.toNat with h | h <;> simp [h]

@[simp] theorem low32_append (a b : Word) : low32 (a ++ b) = b := by
  simp only [low32]
  exact BitVec.setWidth_append_eq_right

@[simp] theorem high32_append (a b : Word) : high32 (a ++ b) = a := by
  simp only [high32]
  exact BitVec.extractLsb'_append_eq_left

/-- 10 R42: the tagged form of the address that `SetPCTagged` stores. -/
theorem State.taggedPC_setPCTagged (s : State) (v : Quad) : (s.setPCTagged v).taggedPC = v := by
  have hpc : ((v.extractLsb' 1 63 ++ 0#1 : Quad)).extractLsb' 1 63 = v.extractLsb' 1 63 :=
    BitVec.extractLsb'_append_eq_left
  simp only [State.taggedPC, State.setPCTagged, tagPc, hpc]
  apply BitVec.eq_of_getLsbD_eq
  intro b hb
  cases b with
  | zero => cases h : v.getLsbD 0 <;> simp only [ismOfTag, h, ismBit, BitVec.getLsbD_append] <;> rfl
  | succ b =>
    rw [BitVec.getLsbD_append, if_neg (by omega), BitVec.getLsbD_extractLsb', Nat.add_sub_cancel, Nat.add_comm 1 b,
      decide_eq_true (by omega : b < 63), Bool.true_and]

theorem State.getGbr_setGbr (s : State) (v : Word) : (s.setGbr v).getGbr = v := by
  cases h : s.params.storage <;> simp [State.getGbr, State.setGbr, h, State.g_setG]

theorem State.getPr_setPr (s : State) (v : Word) : (s.setPr v).getPr = v := by
  cases h : s.params.storage <;> simp [State.getPr, State.setPr, h, State.g_setG]

theorem State.getMacl_setMacl (s : State) (v : Word) : (s.setMacl v).getMacl = v := by
  cases h : s.params.storage <;> simp [State.getMacl, State.setMacl, h, State.g_setG]

theorem State.getMach_setMach (s : State) (v : Word) : (s.setMach v).getMach = v := by
  cases h : s.params.storage <;> simp [State.getMach, State.setMach, h, State.g_setG]

theorem State.getFpul_setFpul (s : State) (v : Word) : (s.setFpul v).getFpul = v := by
  cases h : s.params.storage <;> simp [State.getFpul, State.setFpul, h, State.f_setF]

/-- The bits of a written value that a named register has (10 R32, R49, R57). -/
def RegName.clip (v : Quad) : RegName → Quad
  | .gr i => if i = 63 then 0 else v
  | .cr k => if k = 0 then BitVec.ofNat 64 (v.toNat % 2 ^ 32) else v
  | .tr _ => v
  | .pc => v
  | .fpscr => BitVec.ofNat 64 (v.toNat % 2 ^ 22)
  | .flagT => BitVec.ofNat 64 (v.toNat % 2)
  | .flagS => BitVec.ofNat 64 (v.toNat % 2)
  | .flagQ => BitVec.ofNat 64 (v.toNat % 2)
  | .flagM => BitVec.ofNat 64 (v.toNat % 2)
  | _ => BitVec.ofNat 64 (v.toNat % 2 ^ 32)

theorem storedReg_storeReg (s : State) (v : Quad) (r : RegName) : storedReg (storeReg s v r) r = r.clip v := by
  cases r with
  | gr i =>
    by_cases h : i = 63
    · rw [storedReg, RegName.clip, if_pos h, h, State.g_63]
    · rw [storedReg, storeReg, RegName.clip, if_neg h, State.g_setG, if_pos ⟨rfl, h⟩]
  | cr k => simp only [storedReg, storeReg, RegName.clip, State.c_setC, if_true, zext64_low32]
  | tr a => simp only [storedReg, storeReg, RegName.clip, State.t_setTr, if_true]
  | fr i => simp only [storedReg, storeReg, RegName.clip, State.f_setF, if_true, zext64_low32]
  | fpscr => exact zext64_low32_fpscr v
  | pc => exact s.taggedPC_setPCTagged v
  | sr => exact zext64_low32 v
  | vbr => exact zext64_low32 v
  | flagT => simp only [storedReg, storeReg, RegName.clip, State.flagT_setT, truth_getLsbD_zero]
  | flagS => simp only [storedReg, storeReg, RegName.clip, State.flagS_setS, truth_getLsbD_zero]
  | flagQ => simp only [storedReg, storeReg, RegName.clip, State.flagQ_setQ, truth_getLsbD_zero]
  | flagM => simp only [storedReg, storeReg, RegName.clip, State.flagM_setM, truth_getLsbD_zero]
  | gbr => simp only [storedReg, storeReg, RegName.clip, State.getGbr_setGbr, zext64_low32]
  | pr => simp only [storedReg, storeReg, RegName.clip, State.getPr_setPr, zext64_low32]
  | mach => simp only [storedReg, storeReg, RegName.clip, State.getMach_setMach, zext64_low32]
  | macl => simp only [storedReg, storeReg, RegName.clip, State.getMacl_setMacl, zext64_low32]
  | fpul => simp only [storedReg, storeReg, RegName.clip, State.getFpul_setFpul, zext64_low32]

/-! ### Written bits, bit by bit (70 R902) -/

theorem getLsbD_bits (hi lo b : Nat) : (bits hi lo).getLsbD b = true ↔ lo ≤ b ∧ b ≤ hi ∧ b < 64 := by
  have htest : (2 ^ (hi + 1) - 2 ^ lo).testBit b = (decide (lo ≤ b) && decide (b ≤ hi)) := by
    by_cases hlo : lo ≤ hi
    · have hpow : 2 ^ (hi + 1) - 2 ^ lo = 2 ^ lo * (2 ^ (hi + 1 - lo) - 1) := by
        rw [Nat.mul_sub, ← Nat.pow_add, Nat.mul_one, Nat.add_sub_cancel' (by omega)]
      rw [hpow, Nat.testBit_two_pow_mul, Nat.testBit_two_pow_sub_one]
      by_cases hb : lo ≤ b <;> simp [hb]; omega
    · have hle : 2 ^ (hi + 1) ≤ 2 ^ lo := Nat.pow_le_pow_right (by decide) (by omega)
      rw [Nat.sub_eq_zero_of_le hle, Nat.zero_testBit]
      symm
      simp; omega
  rw [bits, BitVec.getLsbD_ofNat, htest]
  simp only [Bool.and_eq_true, decide_eq_true_eq]
  omega

theorem Written.has_iff {w : Written} {x : StoreBits} :
    w.has x = true ↔ ∀ b, x.mask.getLsbD b = true → (w.get x.reg).getLsbD b = true := by
  rw [Written.has, beq_iff_eq]
  constructor
  · intro h b hb
    have hbit : (x.mask &&& ~~~w.get x.reg).getLsbD b = false := by rw [h]; exact BitVec.getLsbD_zero
    by_contra hw
    have : b < 64 := BitVec.lt_of_getLsbD hb
    rw [BitVec.getLsbD_and, BitVec.getLsbD_not, hb, Bool.eq_false_iff.2 hw] at hbit
    simp [this] at hbit
  · intro h
    apply BitVec.eq_of_getLsbD_eq
    intro b hlt
    cases hb : x.mask.getLsbD b with
    | false => rw [BitVec.getLsbD_and, hb, Bool.false_and]; exact BitVec.getLsbD_zero.symm
    | true =>
      rw [BitVec.getLsbD_and, BitVec.getLsbD_not, h b hb, Bool.not_true, Bool.and_false, Bool.and_false]
      exact BitVec.getLsbD_zero.symm

/-- How many bits a register of the physical storage has. -/
def Store.width : Store → Nat
  | .gr _ => 64
  | .cr _ => 64
  | .tr _ => 64
  | .pc => 64
  | .ism => 1
  | _ => 32

/-- The bits named are bits that the register has. -/
def StoreBits.Fits (x : StoreBits) : Prop := ∀ b, x.mask.getLsbD b = true → b < x.reg.width

theorem fits_bits {r : Store} {hi lo : Nat} (h : hi < r.width) : StoreBits.Fits ⟨r, bits hi lo⟩ := fun b hb => by
  have := ((getLsbD_bits hi lo b).1 hb).2.1
  show b < r.width
  omega

theorem getLsbD_getD_marked {k n : Nat} {v : Vector (BitVec k) n} {i : Nat} {m d : BitVec k} {b : Nat} (hm : m.getLsbD b = true)
    (hd : n ≤ i → d.getLsbD b = true) : ((v.setIfInBounds i (v.getD i 0 ||| m)).getD i d).getLsbD b = true := by
  rw [getD_setIfInBounds]
  by_cases hi : i < n
  · rw [if_pos ⟨rfl, hi⟩, BitVec.getLsbD_or, hm, Bool.or_true]
  · have hout : v.getD i d = d := by simp [Vector.getD, hi]
    rw [if_neg fun h => hi h.2, hout]
    exact hd (by omega)

theorem getLsbD_zext64_marked {v : Word} {m : Quad} {b : Nat} (hm : m.getLsbD b = true) (hb : b < 32) :
    (zext64 (v ||| low32 m)).getLsbD b = true := by
  simp [zext64, low32, hm, hb]; omega

/-- Bits that a register has are written once they are marked (70 R902). -/
theorem Written.has_mark_self (w : Written) {x : StoreBits} (hx : x.Fits) : (w.mark x).has x = true := by
  obtain ⟨r, m⟩ := x
  rw [Written.has_iff]
  intro b hm
  have hb := hx b hm
  have hm32 (h : b < 32) : (low32 m).getLsbD b = true := by simpa [low32, h] using hm
  cases r with
  | gr i => exact getLsbD_getD_marked hm fun _ => (BitVec.getLsbD_allOnes).trans (decide_eq_true hb)
  | cr k => exact getLsbD_getD_marked hm fun hge => by have := k.isLt; omega
  | tr a => exact getLsbD_getD_marked hm fun hge => by have := a.isLt; omega
  | fr i =>
    have h : (((w.mark ⟨.fr i, m⟩).fr).getD i.toNat 0).getLsbD b = true :=
      getLsbD_getD_marked (hm32 hb) fun hge => by have := i.isLt; omega
    have hlt : b < 64 := Nat.lt_trans (show b < 32 from hb) (by decide)
    simpa [Written.get, zext64, hlt] using h
  | pc => simp [Written.mark, Written.get, hm]
  | ism =>
    have h0 : b = 0 := by simp only [Store.width] at hb; omega
    subst h0
    simpa [Written.mark, Written.get] using Or.inr hm
  | _ => exact getLsbD_zext64_marked hm hb

theorem Written.hasAll_markAll (w : Written) {l : List StoreBits} (hl : ∀ x ∈ l, x.Fits) : (w.markAll l).hasAll l = true := by
  induction l generalizing w with
  | nil => rfl
  | cons x l ih =>
    have hx := Written.has_iff.1 (w.has_mark_self (hl x (by simp)))
    have hhead : ((w.mark x).markAll l).has x = true := Written.has_iff.2 fun b hb => Written.get_markAll _ l _ (hx b hb)
    have htail := ih (w.mark x) fun y hy => hl y (by simp [hy])
    exact Bool.and_eq_true_iff.2 ⟨hhead, htail⟩

theorem fits64 {r : Store} (h : r.width = 64) : StoreBits.Fits ⟨r, bits 63 0⟩ := fits_bits (by omega)

theorem fits32 {r : Store} (h : r.width = 32) : StoreBits.Fits ⟨r, bits 31 0⟩ := fits_bits (by omega)

theorem control_fits (k : MReg) : (control k).Fits := by
  unfold control
  split
  · exact fits32 rfl
  · exact fits64 rfl

theorem State.gbrOut_fits (s : State) : s.gbrOut.Fits := by
  unfold State.gbrOut
  split
  · exact fits64 rfl
  · exact fits32 rfl

theorem State.prOut_fits (s : State) : s.prOut.Fits := by
  unfold State.prOut
  split
  · exact fits64 rfl
  · exact fits32 rfl

theorem State.machBits_fits (s : State) : s.machBits.Fits := by
  unfold State.machBits
  split
  · exact fits_bits (show 63 < 64 by decide)
  · exact fits32 rfl

theorem State.maclBits_fits (s : State) : s.maclBits.Fits := by
  unfold State.maclBits
  split
  · exact fits_bits (show 31 < 64 by decide)
  · exact fits32 rfl

theorem State.fpulBits_fits (s : State) : s.fpulBits.Fits := by
  unfold State.fpulBits
  split
  · exact fits32 rfl
  · exact fits32 rfl

theorem nameBits_fits (s : State) (r : RegName) : ∀ x ∈ nameBits s r, x.Fits := by
  have one {x : StoreBits} (h : x.Fits) : ∀ y ∈ [x], y.Fits := fun y hy => List.mem_singleton.1 hy ▸ h
  have flag {b : Nat} (h : b < 32) : StoreBits.Fits ⟨.sr, bits b b⟩ := fits_bits h
  cases r with
  | gr | tr => exact one (fits64 rfl)
  | cr k => exact one (control_fits k)
  | fr | fpscr | sr | vbr => exact one (fits32 rfl)
  | flagT | flagS | flagQ | flagM => exact one (flag (by decide))
  | gbr => exact one s.gbrOut_fits
  | pr => exact one s.prOut_fits
  | mach => exact one s.machBits_fits
  | macl => exact one s.maclBits_fits
  | fpul => exact one s.fpulBits_fits
  | pc =>
    intro x hx
    obtain rfl | rfl : x = ⟨.pc, bits 63 0⟩ ∨ x = ⟨.ism, bits 0 0⟩ := by simpa [nameBits, entryBits] using hx
    · exact fits64 rfl
    · exact fits_bits (show 0 < 1 by decide)

/-! ### What the host reads of written bits (70 R902) -/

theorem getD_zipWith {α β γ : Type} {n : Nat} (f : α → β → γ) (v : Vector α n) (w : Vector β n) {i : Nat} (hi : i < n)
    (a : α) (b : β) (c : γ) : (v.zipWith f w).getD i c = f (v.getD i a) (w.getD i b) := by
  simp [Vector.getD, hi]

@[simp] theorem State.known_params (s : State) : s.known.params = s.params := by
  unfold State.known; split <;> rfl

section
variable {s : State} (h : s.params.resetState = .unwritten)
include h

theorem State.known_g (k : MReg) : s.known.g k = s.g k &&& s.written.get (.gr k) := by
  by_cases hk : k.toNat < 63
  · simp only [State.known, h, State.g, Written.get]
    exact getD_zipWith _ _ _ hk _ _ _
  · simp [State.g, Vector.getD, hk]

theorem State.known_f (k : MReg) : s.known.f k = s.f k &&& low32 (s.written.get (.fr k)) := by
  simp only [State.known, h, State.f, Written.get, low32_zext64]
  exact getD_zipWith _ _ _ k.isLt _ _ _

theorem State.known_t (a : TReg) : s.known.t a = s.t a &&& s.written.get (.tr a) := by
  simp only [State.known, h, State.t, Written.get]
  exact getD_zipWith _ _ _ a.isLt _ _ _

theorem State.known_c {k : MReg} (hk : k ≠ 0) : s.known.c k = s.c k &&& s.written.get (.cr k) := by
  simp only [State.known, h, State.c, Written.get, if_neg hk]
  exact getD_zipWith _ _ _ (by have := k.isLt; omega) _ _ _

end

theorem and_eq_left_of_bits {w : Nat} {v m : BitVec w} (hm : ∀ b < w, m.getLsbD b = true) : v &&& m = v :=
  BitVec.eq_of_getLsbD_eq fun b hb => by rw [BitVec.getLsbD_and, hm b hb, Bool.and_true]

theorem Written.bit_of_has {w : Written} {r : Store} {hi lo b : Nat} (h : w.has ⟨r, bits hi lo⟩ = true) (hlo : lo ≤ b)
    (hhi : b ≤ hi) (hb : b < 64) : (w.get r).getLsbD b = true :=
  Written.has_iff.1 h b ((getLsbD_bits hi lo b).2 ⟨hlo, hhi, hb⟩)

theorem Written.hasAll_singleton {w : Written} {x : StoreBits} : w.hasAll [x] = w.has x := by
  simp [Written.hasAll]

/-- A written register of 64 bits is known whole. -/
theorem and_get_of_has {w : Written} {r : Store} {v : Quad} (h : w.has ⟨r, bits 63 0⟩ = true) : v &&& w.get r = v :=
  and_eq_left_of_bits fun b hb => Written.bit_of_has h (by omega) (by omega) hb

theorem getLsbD_of_zext64 {m : Word} {b : Nat} (h : (zext64 m).getLsbD b = true) : m.getLsbD b = true := by
  rw [zext64, BitVec.getLsbD_setWidth] at h
  exact (Bool.and_eq_true_iff.1 h).2

/-- A written register of 32 bits is known whole. -/
theorem and_of_has {w : Written} {r : Store} {v m : Word} (hm : w.get r = zext64 m) (h : w.has ⟨r, bits 31 0⟩ = true) :
    v &&& m = v :=
  and_eq_left_of_bits fun b hb => getLsbD_of_zext64 (hm ▸ Written.bit_of_has h (by omega) (by omega) (by omega))

theorem low32_and_of_has {w : Written} {r : Store} {v : Quad} (h : w.has ⟨r, bits 31 0⟩ = true) :
    low32 (v &&& w.get r) = low32 v :=
  BitVec.eq_of_getLsbD_eq fun b hb => by
    have hbit : (w.get r).getLsbD b = true := Written.bit_of_has h (by omega) (by omega) (by omega)
    simp only [low32, BitVec.getLsbD_setWidth, BitVec.getLsbD_and, hbit, Bool.and_true]

theorem high32_and_of_has {w : Written} {r : Store} {v : Quad} (h : w.has ⟨r, bits 63 32⟩ = true) :
    high32 (v &&& w.get r) = high32 v :=
  BitVec.eq_of_getLsbD_eq fun b hb => by
    have hbit : (w.get r).getLsbD (32 + b) = true := Written.bit_of_has h (by omega) (by omega) (by omega)
    simp only [high32, BitVec.getLsbD_extractLsb', BitVec.getLsbD_and, hbit, Bool.and_true]

section
variable {s : State} (h : s.params.resetState = .unwritten)
include h

theorem State.known_g_of_has {k : MReg} (hw : s.written.has (gpr k) = true) : s.known.g k = s.g k :=
  (State.known_g h k).trans (and_get_of_has hw)

theorem State.known_f_of_has {k : MReg} (hw : s.written.has (single k) = true) : s.known.f k = s.f k := by
  have hmask : s.written.get (.fr k) = zext64 (low32 (s.written.get (.fr k))) := by simp only [Written.get, low32_zext64]
  exact (State.known_f h k).trans (and_of_has hmask hw)

theorem State.known_getGbr (hw : s.written.has s.gbrOut = true) : s.known.getGbr = s.getGbr := by
  unfold State.gbrOut at hw
  unfold State.getGbr
  cases hc : s.params.storage <;> simp only [hc, State.known_params] at hw ⊢
  case aliased => exact congrArg low32 (State.known_g_of_has h hw)
  case separate => simpa only [State.known, h] using and_of_has rfl hw

theorem State.known_getPr (hw : s.written.has s.prOut = true) : s.known.getPr = s.getPr := by
  unfold State.prOut at hw
  unfold State.getPr
  cases hc : s.params.storage <;> simp only [hc, State.known_params] at hw ⊢
  case aliased => exact congrArg low32 (State.known_g_of_has h hw)
  case separate => simpa only [State.known, h] using and_of_has rfl hw

theorem State.known_getMacl (hw : s.written.has s.maclBits = true) : s.known.getMacl = s.getMacl := by
  unfold State.maclBits at hw
  unfold State.getMacl
  cases hc : s.params.storage <;> simp only [hc, State.known_params] at hw ⊢
  case aliased => exact (congrArg low32 (State.known_g h 17)).trans (low32_and_of_has hw)
  case separate => simpa only [State.known, h] using and_of_has rfl hw

theorem State.known_getMach (hw : s.written.has s.machBits = true) : s.known.getMach = s.getMach := by
  unfold State.machBits at hw
  unfold State.getMach
  cases hc : s.params.storage <;> simp only [hc, State.known_params] at hw ⊢
  case aliased => exact (congrArg high32 (State.known_g h 17)).trans (high32_and_of_has hw)
  case separate => simpa only [State.known, h] using and_of_has rfl hw

theorem State.known_getFpul (hw : s.written.has s.fpulBits = true) : s.known.getFpul = s.getFpul := by
  unfold State.fpulBits at hw
  unfold State.getFpul
  cases hc : s.params.storage <;> simp only [hc, State.known_params] at hw ⊢
  case aliased => exact State.known_f_of_has h hw
  case separate => simpa only [State.known, h] using and_of_has rfl hw

/-- A written flag is known. -/
theorem State.known_flag {b : Nat} (hb : b < 32) (hw : s.written.has ⟨.sr, bits b b⟩ = true) :
    s.known.sr.getLsbD b = s.sr.getLsbD b := by
  have hbit : s.written.sr.getLsbD b = true :=
    getLsbD_of_zext64 (Written.bit_of_has hw (Nat.le_refl b) (Nat.le_refl b) (by omega))
  simp only [State.known, h, BitVec.getLsbD_and, hbit, Bool.and_true]

theorem State.known_c_of_has {k : MReg} (hw : s.written.has (control k) = true) : s.known.c k = s.c k := by
  unfold control at hw
  by_cases hk : k = 0
  · rw [if_pos hk] at hw
    have hsr : s.known.sr = s.sr := by
      simp only [State.known, h]
      exact and_of_has rfl hw
    rw [State.c, State.c, if_pos hk, if_pos hk, hsr]
  · rw [if_neg hk] at hw
    rw [State.known_c h hk, and_get_of_has hw]

theorem State.known_taggedPC (hpc : s.written.has ⟨.pc, bits 63 0⟩ = true) (hism : s.written.has ⟨.ism, bits 0 0⟩ = true) :
    s.known.taggedPC = s.taggedPC := by
  have hbit : s.written.ism.getLsbD 0 = true := by
    have := Written.bit_of_has hism (Nat.le_refl 0) (Nat.le_refl 0) (by decide)
    simpa [Written.get] using this
  have hne : s.written.ism ≠ 0 := fun he => by rw [he] at hbit; cases hbit
  simp only [State.taggedPC, State.known, h, if_neg hne]
  rw [show s.pc &&& s.written.pc = s.pc from and_get_of_has hpc]

end

/-- The host reads the stored value of a register whose bits are all written (70 R902). -/
theorem readReg_of_written {s : State} {r : RegName}
    (hw : s.params.resetState = .unwritten → s.written.hasAll (nameBits s r) = true) : readReg s r = storedReg s r := by
  cases h : s.params.resetState with
  | zero => simp only [readReg, State.known, h]
  | unwritten =>
    have hw := hw h
    unfold readReg
    cases r <;> simp only [nameBits, Written.hasAll_singleton] at hw
    case gr => exact State.known_g_of_has h hw
    case cr => exact State.known_c_of_has h hw
    case tr => exact (State.known_t h _).trans (and_get_of_has hw)
    case fr => exact congrArg zext64 (State.known_f_of_has h hw)
    case fpscr | sr | vbr =>
      simp only [storedReg, State.known, h]
      exact congrArg zext64 (and_of_has rfl hw)
    case flagT | flagS | flagQ | flagM => exact congrArg (truth 64) (State.known_flag h (by decide) hw)
    case gbr => exact congrArg zext64 (State.known_getGbr h hw)
    case pr => exact congrArg zext64 (State.known_getPr h hw)
    case mach => exact congrArg zext64 (State.known_getMach h hw)
    case macl => exact congrArg zext64 (State.known_getMacl h hw)
    case fpul => exact congrArg zext64 (State.known_getFpul h hw)
    case pc =>
      obtain ⟨hpc, hism⟩ : s.written.has ⟨.pc, bits 63 0⟩ = true ∧ s.written.has ⟨.ism, bits 0 0⟩ = true := by
        simpa [Written.hasAll, entryBits] using hw
      exact State.known_taggedPC h hpc hism

theorem lookup_gr64 : regNames.lookup "GR64" = none := by decide +kernel
theorem lookup_fpul : regNames.lookup "FPUL" = some .fpul := by decide +kernel

/-! ### A register that the host wrote -/

@[simp] theorem writeReg_params (s : State) (v : Quad) (r : RegName) : (writeReg s v r).params = s.params :=
  storeReg_params s v r

/-- Which bits a name stands for depends on the parameters only. -/
theorem nameBits_congr {s t : State} (hp : t.params = s.params) (r : RegName) : nameBits t r = nameBits s r := by
  cases r <;> simp only [nameBits, State.gbrOut, State.prOut, State.machBits, State.maclBits, State.fpulBits, hp]

theorem readReg_writeReg (s : State) (v : Quad) (r : RegName) : readReg (writeReg s v r) r = r.clip v := by
  have hread : readReg (writeReg s v r) r = storedReg (writeReg s v r) r := readReg_of_written fun _ => by
    rw [nameBits_congr (writeReg_params s v r)]
    exact s.written.hasAll_markAll (nameBits_fits s r)
  rw [hread, ← storedReg_storeReg s v r]
  cases r <;> rfl

/-- Settles O53: what the host wrote is stored, and its bits are written, so they are read. -/
theorem hostWritesReadBack : Obligations.HostWritesReadBack := by
  intro s v k a
  have back := readReg_writeReg s v
  refine ⟨back (.gr k), back (.cr k), back (.tr a), ?_, back .fpscr, ?_, back .pc, rfl, rfl, rfl, rfl, ?_, ?_, ?_⟩
  · intro r hr
    rw [back]
    fin_cases hr <;> rfl
  · intro r hr
    rw [back]
    fin_cases hr <;> rfl
  · simp only [readRegister, lookup_gr64]
  · simp only [readRegister, lookup_fpul]
  · intro h
    exact readReg_of_written fun hu => by rw [h] at hu; cases hu

end Sys2Proof.Machine
end

section
/-! SUPPORT. Byte positions and access checks (20 R81, R83, R85): where each byte of a value lies, which accesses fault, and what the
next step fetches where a code was placed (20 R92, R93). -/

namespace Sys2Proof.Machine

/-! ### The addresses of an access -/

theorem offset_zero (a : Quad) : a + BitVec.ofNat 64 0 = a := BitVec.add_zero a

theorem offset_succ (a : Quad) (k : Nat) : a + BitVec.ofNat 64 (k + 1) = a + 1 + BitVec.ofNat 64 k := by
  rw [Nat.add_comm, BitVec.ofNat_add, ← BitVec.add_assoc]; rfl

theorem bytesFrom_succ (a : Quad) (n : Nat) : bytesFrom a (n + 1) = a :: bytesFrom (a + 1) n := by
  simp only [bytesFrom, List.range_succ_eq_map, List.map_cons, List.map_map, offset_zero]
  congr 2
  funext k
  exact offset_succ a k

theorem bytesFrom_append (a : Quad) (j n : Nat) :
    bytesFrom a (j + n) = bytesFrom a j ++ bytesFrom (a + BitVec.ofNat 64 j) n := by
  simp only [bytesFrom, List.range_add, List.map_append, List.map_map]
  congr 2
  funext k
  simp only [Function.comp_apply, BitVec.ofNat_add, BitVec.add_assoc]

/-! ### The bytes of a value, lowest address first (20 R81) -/

theorem bytes16_join16 (e : Endian) (b0 b1 : Byte) : bytes16 e (join16 e b0 b1) = [b0, b1] := by
  cases e <;> simp only [bytes16, join16, BitVec.extractLsb'_append_eq_left, BitVec.extractLsb'_append_eq_right]

theorem bytes32_join32 (e : Endian) (x y : Half) : bytes32 e (join32 e x y) = bytes16 e x ++ bytes16 e y := by
  cases e <;> simp only [bytes32, join32, BitVec.extractLsb'_append_eq_left, BitVec.extractLsb'_append_eq_right]

theorem bytes64_join64 (e : Endian) (x y : Word) : bytes64 e (join64 e x y) = bytes32 e x ++ bytes32 e y := by
  cases e <;> simp only [bytes64, join64, BitVec.extractLsb'_append_eq_left, BitVec.extractLsb'_append_eq_right]

/-- The bytes of the value read are the bytes in memory. -/
theorem Memory.bytes16_read16 (m : Memory) (e : Endian) (a : Quad) :
    bytes16 e (m.read16 e a) = (bytesFrom a 2).map m.read8 := by
  rw [Memory.read16, bytes16_join16, bytesFrom_succ, bytesFrom_succ]; rfl

theorem Memory.bytes32_read32 (m : Memory) (e : Endian) (a : Quad) :
    bytes32 e (m.read32 e a) = (bytesFrom a 4).map m.read8 := by
  rw [Memory.read32, bytes32_join32, m.bytes16_read16, m.bytes16_read16, ← List.map_append, bytesFrom_append a 2 2]; rfl

theorem Memory.bytes64_read64 (m : Memory) (e : Endian) (a : Quad) :
    bytes64 e (m.read64 e a) = (bytesFrom a 8).map m.read8 := by
  rw [Memory.read64, bytes64_join64, m.bytes32_read32, m.bytes32_read32, ← List.map_append, bytesFrom_append a 4 4]; rfl

/-- Each byte of a write stands where it was written. -/
theorem Memory.read8_writeBytes_offset (m : Memory) (a : Quad) {bs : List Byte} {b : Byte} {k : Nat} (hb : bs[k]? = some b)
    (hlen : bs.length ≤ 2 ^ 64) : (m.writeBytes a bs).read8 (a + BitVec.ofNat 64 k) = b := by
  induction bs generalizing m a k with
  | nil => cases hb
  | cons c cs ih =>
    rw [List.length_cons] at hlen
    cases k with
    | zero =>
      have hc : c = b := Option.some.inj hb
      have hout : ¬ inRange (a + 1) cs.length a := by
        simpa using not_inRange_of_offset a 0 1 cs.length (by omega) (by omega) (by omega)
      rw [offset_zero, Memory.writeBytes, Memory.read8_writeBytes _ _ _ _ hout, Memory.read8_write8, if_pos rfl, hc]
    | succ k =>
      rw [offset_succ, Memory.writeBytes]
      exact ih _ _ hb (by omega)

/-- The position of byte `k` of a value of `n` bytes (20 R81). -/
theorem bytes16_getElem (e : Endian) (v : Half) {k : Nat} (hk : k < 2) :
    (bytes16 e v)[k]? = some (v.extractLsb' (if e = .big then 8 * (1 - k) else 8 * k) 8) := by
  cases e <;> interval_cases k <;> rfl

theorem extract_extract {w : Nat} (v : BitVec w) (i j n m : Nat) (h : j + m ≤ n) :
    (v.extractLsb' i n).extractLsb' j m = v.extractLsb' (i + j) m := by
  apply BitVec.eq_of_getLsbD_eq
  intro b hb
  have hn : j + b < n := by omega
  simp only [BitVec.getLsbD_extractLsb', hb, hn, decide_true, Bool.true_and, Nat.add_assoc]

theorem bytes32_getElem (e : Endian) (v : Word) {k : Nat} (hk : k < 4) :
    (bytes32 e v)[k]? = some (v.extractLsb' (if e = .big then 8 * (3 - k) else 8 * k) 8) := by
  cases e <;> interval_cases k <;> exact congrArg some (extract_extract v _ _ 16 8 (by decide))

theorem bytes64_getElem (e : Endian) (v : Quad) {k : Nat} (hk : k < 8) :
    (bytes64 e v)[k]? = some (v.extractLsb' (if e = .big then 8 * (7 - k) else 8 * k) 8) := by
  cases e <;> interval_cases k <;>
    exact congrArg some ((extract_extract _ _ _ 16 8 (by decide)).trans (extract_extract v _ _ 32 8 (by decide)))

/-- The byte at position `k` of an access, where `bs` are the bytes in memory. -/
theorem Memory.read8_of_bytes {m : Memory} {a : Quad} {n k : Nat} {bs : List Byte} {b : Byte}
    (hbs : bs = (bytesFrom a n).map m.read8) (hk : k < n) (hb : bs[k]? = some b) : m.read8 (a + BitVec.ofNat 64 k) = b := by
  simpa [hbs, bytesFrom, hk] using hb

/-- Settles O43: reads and writes agree with the list of a value's bytes, lowest address first. -/
theorem byteOrderOfAccesses : Obligations.ByteOrderOfAccesses := by
  intro s a x h w q k
  refine ⟨fun hk => ⟨?_, ?_⟩, fun hk => ⟨?_, ?_⟩, fun hk => ⟨?_, ?_⟩, fun hx => ?_, fun hx => ?_, fun hx => ?_⟩
  · exact Memory.read8_of_bytes (s.mem.bytes16_read16 s.endian a) hk (bytes16_getElem _ _ hk)
  · exact Memory.read8_writeBytes_offset _ _ (bytes16_getElem _ _ hk) (by simp)
  · exact Memory.read8_of_bytes (s.mem.bytes32_read32 s.endian a) hk (bytes32_getElem _ _ hk)
  · exact Memory.read8_writeBytes_offset _ _ (bytes32_getElem _ _ hk) (by simp)
  · exact Memory.read8_of_bytes (s.mem.bytes64_read64 s.endian a) hk (bytes64_getElem _ _ hk)
  · exact Memory.read8_writeBytes_offset _ _ (bytes64_getElem _ _ hk) (by simp)
  · exact Memory.read8_write16 _ _ _ _ _ (mt mem_bytesFrom.2 hx)
  · exact Memory.read8_write32 _ _ _ _ _ (mt mem_bytesFrom.2 hx)
  · exact Memory.read8_write64 _ _ _ _ _ (mt mem_bytesFrom.2 hx)

/-! ### Which accesses fault (20 R83, R85) -/

theorem firstBad_eq_none {ok : Quad → Bool} {a : Quad} {n : Nat} :
    firstBad ok a n = none ↔ ∀ y ∈ bytesFrom a n, ok y = true := by
  induction n generalizing a with
  | zero => simp [firstBad, bytesFrom]
  | succ n ih =>
    simp only [firstBad, bytesFrom_succ, List.forall_mem_cons]
    cases h : ok a
    · simp
    · simpa using ih

/-- The reported address is that of the first byte that fails (log 17). -/
theorem firstBad_eq_some {ok : Quad → Bool} {a x : Quad} {n : Nat} :
    firstBad ok a n = some x ↔
      ∃ k < n, x = a + BitVec.ofNat 64 k ∧ ok x = false ∧ ∀ j < k, ok (a + BitVec.ofNat 64 j) = true := by
  induction n generalizing a with
  | zero => simp [firstBad]
  | succ n ih =>
    simp only [firstBad, Nat.exists_lt_succ_left, Nat.forall_lt_succ_left, offset_zero, offset_succ]
    cases h : ok a with
    | false =>
      have hfirst : a = x → ok x = false := fun he => he ▸ h
      simpa [h, @eq_comm _ x a] using hfirst
    | true =>
      have hfirst : ¬ (x = a ∧ ok x = false) := fun ⟨he, hx⟩ => by rw [he, h] at hx; cases hx
      simpa [h, hfirst] using ih

section
variable {p : Params} {ok : Quad → Bool} {a x : Quad} {n : Nat}

theorem accessFault_aligned_eq_none (h : a.toNat % n = 0) :
    accessFault p ok a n = none ↔ ∀ y ∈ bytesFrom a n, ok y = true := by
  rw [accessFault, if_pos h, ← firstBad_eq_none]
  cases firstBad ok a n <;> simp

theorem accessFault_aligned_eq_some (h : a.toNat % n = 0) (hx : accessFault p ok a n = some x) : x = a := by
  rw [accessFault, if_pos h] at hx
  split at hx
  · exact (Option.some.inj hx).symm
  · cases hx

theorem accessFault_split (hp : p.misaligned = .split) (h : a.toNat % n ≠ 0) : accessFault p ok a n = firstBad ok a n := by
  rw [accessFault, if_neg h, hp]

theorem accessFault_one_eq_none : accessFault p ok a 1 = none ↔ ok a = true := by
  rw [accessFault_aligned_eq_none (Nat.mod_one _), bytesFrom]
  simp

theorem accessFault_split_eq_none (hp : p.misaligned = .split) (h : a.toNat % n ≠ 0) :
    accessFault p ok a n = none ↔ ∀ y ∈ bytesFrom a n, accessFault p ok y 1 = none := by
  simp only [accessFault_split hp h, firstBad_eq_none, accessFault_one_eq_none]

theorem accessFault_split_eq_some (hp : p.misaligned = .split) (h : a.toNat % n ≠ 0) :
    accessFault p ok a n = some x ↔
      ∃ k < n, x = a + BitVec.ofNat 64 k ∧ ok x = false ∧ ∀ j < k, ok (a + BitVec.ofNat 64 j) = true := by
  rw [accessFault_split hp h, firstBad_eq_some]

end

theorem canRead_iff {p : Params} {a : Quad} :
    canRead p a = true ↔ ∃ r ∈ p.mem, r.readable = true ∧ r.base ≤ a.toNat ∧ a.toNat < r.base + r.size := by
  simp only [canRead, List.any_eq_true, Bool.and_eq_true, decide_eq_true_eq, and_assoc]

theorem canWrite_iff {p : Params} {a : Quad} :
    canWrite p a = true ↔ ∃ r ∈ p.mem, r.writable = true ∧ r.base ≤ a.toNat ∧ a.toNat < r.base + r.size := by
  simp only [canWrite, List.any_eq_true, Bool.and_eq_true, decide_eq_true_eq, and_assoc]

/-- Settles O44: reads and writes are one check, over the readable and over the writable bytes. -/
theorem accessChecks : Obligations.AccessChecks := by
  intro s a x n _
  refine ⟨canRead_iff, canWrite_iff, fun h => ⟨?_, ?_, ?_, ?_⟩, fun h hp => ⟨?_, ?_⟩, fun h hp => ⟨?_, ?_, ?_, ?_⟩⟩
  · exact accessFault_aligned_eq_none h
  · exact accessFault_aligned_eq_none h
  · exact accessFault_aligned_eq_some h
  · exact accessFault_aligned_eq_some h
  · exact accessFault_misaligned _ _ _ _ hp h
  · exact accessFault_misaligned _ _ _ _ hp h
  · exact accessFault_split_eq_none hp h
  · exact accessFault_split_eq_some hp h
  · exact accessFault_split_eq_none hp h
  · exact accessFault_split_eq_some hp h

/-! ### Code placed where the next step fetches (20 R92, R93) -/

theorem toNat_mod_two {a : Quad} (h : a.getLsbD 0 = false) : a.toNat % 2 = 0 := by
  have hodd : ¬ a.toNat % 2 = 1 := fun ho => by rw [getLsbD_zero_iff.2 ho] at h; cases h
  omega

theorem placedWord_mod_four (a : Quad) : (a &&& ~~~3#64).toNat % 4 = 0 := by
  have hlow : (a &&& ~~~3#64).extractLsb' 0 2 = 0#2 := by
    rw [BitVec.extractLsb'_and, show (~~~3#64).extractLsb' 0 2 = 0#2 by decide, BitVec.and_zero]
  simpa using congrArg BitVec.toNat hlow

theorem placedWord_bit_one (a : Quad) : (a &&& ~~~3#64).getLsbD 1 = false := by
  rw [BitVec.getLsbD_and, show (~~~3#64).getLsbD 1 = false by decide, Bool.and_false]

theorem startsFourByte_of_decode_half {x : CompactExt} {h : Half} {i : Instr} (hd : decodeCode x (.half h) = .ok i) :
    startsFourByte x h = false := by
  cases hs : startsFourByte x h with
  | false => rfl
  | true => rw [decodeCode, if_pos hs] at hd; cases hd

theorem startsFourByte_of_decode_pair {x : CompactExt} {h h2 : Half} {i : Instr} (hd : decodeCode x (.pair h h2) = .ok i) :
    startsFourByte x h = true := by
  cases hs : startsFourByte x h with
  | true => rfl
  | false => rw [decodeCode, hs, if_neg Bool.false_ne_true] at hd; cases hd

section
variable {s : State} {h h2 : Half}

theorem State.fetch_half (hm : s.ism = .compact) (hf : s.readFault s.pc 2 = none) (hr : s.read16 s.pc = h)
    (hs : startsFourByte s.params.ext h = false) : s.fetch = .ok (.half h) := by
  simp only [State.fetch, State.fetchCompact, hm, hf, hr, hs, Bool.false_eq_true, if_false]

theorem State.fetch_pair (hm : s.ism = .compact) (hf : s.readFault s.pc 2 = none) (hr : s.read16 s.pc = h)
    (hs : startsFourByte s.params.ext h = true) (hf2 : s.readFault (s.pc + 2) 2 = none) (hr2 : s.read16 (s.pc + 2) = h2) :
    s.fetch = .ok (.pair h h2) := by
  simp only [State.fetch, State.fetchCompact, hm, hf, hr, hs, hf2, hr2, if_true]

theorem State.fetch_word {w : Word} (hm : s.ism = .media) (hpc : s.pc.getLsbD 1 = false) (hf : s.readFault s.pc 4 = none)
    (hr : s.read32 s.pc = w) : s.fetch = .ok (.word w) := by
  simp only [State.fetch, State.fetchMedia, hm, hpc, hf, hr, Bool.false_eq_true, if_false]

/-- A media PC with bit 1 set faults with PC itself (20 R93). -/
theorem State.fetch_unaligned (hm : s.ism = .media) (hpc : s.pc.getLsbD 1 = true) : s.fetch = .error s.pc := by
  simp only [State.fetch, State.fetchMedia, hm, hpc, if_true]

end

/-- The two halfwords of a pair lie side by side. -/
theorem Memory.writeBytes_pair (m : Memory) (e : Endian) (a : Quad) (h h2 : Half) :
    m.writeBytes a (bytes16 e h ++ bytes16 e h2) = (m.write16 e a h).write16 e (a + 2) h2 := by
  rw [Memory.writeBytes_append, bytes16_length]; rfl

theorem Memory.read16_first_of_pair (m : Memory) (e : Endian) (a : Quad) (h h2 : Half) :
    ((m.write16 e a h).write16 e (a + 2) h2).read16 e a = h := by
  have hkept := (m.write16 e a h).read16_write16_ne e e a h2 0 2 (by decide) (by decide) (by decide)
  rw [offset_zero] at hkept
  exact hkept.trans (m.read16_write16 e a h)

/-- The code placed at PC is fetched in either byte order, where it can be read and PC is even. -/
theorem placeCode_fetch (s : State) {c : Code} {i : Instr} (hpc : s.pc.getLsbD 0 = false)
    (hd : decodeCode s.params.ext c = .ok i)
    (hmem : ∀ x ∈ bytesFrom (placePc s.pc c) c.size, canRead s.params x = true) : (placeCode s c).fetch = .ok c := by
  have heven := toNat_mod_two hpc
  cases c with
  | half h =>
    exact State.fetch_half rfl ((accessFault_aligned_eq_none heven).2 hmem) (s.mem.read16_write16 s.endian s.pc h)
      (startsFourByte_of_decode_half hd)
  | pair h h2 =>
    have hmem : ∀ x ∈ bytesFrom s.pc 2 ++ bytesFrom (s.pc + 2) 2, canRead s.params x = true :=
      bytesFrom_append s.pc 2 2 ▸ hmem
    rw [List.forall_mem_append] at hmem
    have heven2 : (s.pc + 2).toNat % 2 = 0 := by rw [BitVec.toNat_add]; simp; omega
    have hbytes := s.mem.writeBytes_pair s.endian s.pc h h2
    refine State.fetch_pair rfl ((accessFault_aligned_eq_none heven).2 hmem.1) ?_ (startsFourByte_of_decode_pair hd)
      ((accessFault_aligned_eq_none heven2).2 hmem.2) ?_
    · exact (congrArg (·.read16 s.endian s.pc) hbytes).trans (Memory.read16_first_of_pair ..)
    · exact (congrArg (·.read16 s.endian (s.pc + 2)) hbytes).trans (Memory.read16_write16 ..)
  | word w =>
    exact State.fetch_word rfl (placedWord_bit_one s.pc)
      ((accessFault_aligned_eq_none (placedWord_mod_four s.pc)).2 hmem) (s.mem.read32_write32 s.endian _ w)

theorem placeCode_entryUnwritten (s : State) (c : Code) : (placeCode s c).entryUnwritten = false := by
  have hfits : ∀ x ∈ entryBits, x.Fits := nameBits_fits s .pc
  have hall : (placeCode s c).written.hasAll entryBits = true := s.written.hasAll_markAll hfits
  rw [State.entryUnwritten, hall, Bool.not_true, Bool.and_false]

theorem settle_false (r : Result) : settle false r = r := by cases r <;> rfl

/-- Settles O38: the fetch reads back the bytes that were placed, and with nothing pending the step is the meaning. -/
theorem placedCodeIsFetched : Obligations.PlacedCodeIsFetched := by
  intro s c i hpc hd hmem
  have hfetch := placeCode_fetch s hpc hd hmem
  have hentry := placeCode_entryUnwritten s c
  refine ⟨hfetch, hentry, fun hz => ?_, State.fetch_unaligned⟩
  have hzero : (placeCode s c).params.resetState = .zero := hz
  rw [step_decoded hentry hfetch hd rfl (State.readsUnwritten_zero hzero i), State.record_zero hzero]
  exact settle_false _

end Sys2Proof.Machine
end

section
/-! SUPPORT. Faulting data accesses (20 R85 to R89, 60 R852): a check that fails reports the fault whatever follows it, and the check
that each form's meaning opens with. -/

namespace Sys2Proof.Machine

/-! ### The operands of the statements in the model's own terms -/

section
variable {k : Nat} (v : BitVec k)

theorem ofInt_scaled {c : Int} {sh : Nat} (hc : BitVec.ofInt 64 c = BitVec.twoPow 64 sh) :
    BitVec.ofInt 64 (v.toInt * c) = sx64 v sh := by
  rw [BitVec.ofInt_mul, hc, sx64, BitVec.shiftLeft_eq_mul_twoPow, BitVec.signExtend]

theorem ofInt_eq_sx64 : BitVec.ofInt 64 v.toInt = sx64 v 0 := by
  rw [← ofInt_scaled v (c := 1) (by decide), Int.mul_one]
theorem ofInt_mul_two : BitVec.ofInt 64 (v.toInt * 2) = sx64 v 1 := ofInt_scaled v (by decide)
theorem ofInt_mul_four : BitVec.ofInt 64 (v.toInt * 4) = sx64 v 2 := ofInt_scaled v (by decide)
theorem ofInt_mul_eight : BitVec.ofInt 64 (v.toInt * 8) = sx64 v 3 := ofInt_scaled v (by decide)

theorem ofNat_scaled {c sh : Nat} (hc : BitVec.ofNat 32 c = BitVec.twoPow 32 sh) :
    BitVec.ofNat 32 (v.toNat * c) = zx32 v sh := by
  rw [BitVec.ofNat_mul, hc, BitVec.ofNat_toNat, zx32, BitVec.shiftLeft_eq_mul_twoPow]

theorem ofNat_eq_zx32 : BitVec.ofNat 32 v.toNat = zx32 v 0 := by
  rw [← ofNat_scaled v (c := 1) (by decide), Nat.mul_one]
theorem ofNat_mul_two : BitVec.ofNat 32 (v.toNat * 2) = zx32 v 1 := ofNat_scaled v (by decide)
theorem ofNat_mul_four : BitVec.ofNat 32 (v.toNat * 4) = zx32 v 2 := ofNat_scaled v (by decide)
theorem ofNat_mul_eight : BitVec.ofNat 32 (v.toNat * 8) = zx32 v 3 := ofNat_scaled v (by decide)

end

theorem State.sext64_index (s : State) (m : CReg) : sext64 (s.r 0 + s.r m) = s.eaIdx m := by
  rw [State.eaIdx, BitVec.add_comm]

theorem and_wordMask (v : Word) : v &&& 0xFFFFFFFC#32 = BitVec.ofNat 32 (v.toNat / 4 * 4) := by
  rw [show 0xFFFFFFFC#32 = BitVec.allOnes 32 <<< 2 by decide, ← BitVec.shiftLeft_ushiftRight]
  apply BitVec.eq_of_toNat_eq
  simp [Nat.shiftRight_eq_div_pow, Nat.shiftLeft_eq]

/-- The long PC base drops the two low bits of PC (41 R303). -/
theorem State.pcLong_address (s : State) (d : BitVec 8) :
    sext64 (BitVec.ofNat 32 ((low32 s.pc).toNat / 4 * 4 + 4 + d.toNat * 4)) = s.eaPcLong (zx32 d 2) := by
  rw [State.eaPcLong, State.pcLong, and_wordMask, ← ofNat_mul_four, BitVec.ofNat_add, BitVec.ofNat_add]; rfl

theorem State.require_even {s : State} {d : MReg} {k : Result} (hd : d.toNat % 2 = 0) : s.require (evenF d) k = k := by
  have heven : evenF d = true := by revert d; decide
  rw [State.require, if_pos heven]

theorem not_msb_disp12 {l : BitVec 12} (hl : l.toNat < 2 ^ 11) : ¬ l.msb = true := by
  rw [Bool.not_eq_true, BitVec.msb_eq_false_iff_two_mul_lt]; omega

theorem State.eaDec_single {s : State} (n : CReg) (hsz : ¬ s.fpSZ = true) : sext64 (s.r n - 4) = s.eaDec n (fmovSize s) := by
  rw [State.eaDec, fmovSize, if_neg hsz]

theorem State.eaDec_pair {s : State} (n : CReg) (hsz : s.fpSZ = true) : sext64 (s.r n - 8) = s.eaDec n (fmovSize s) := by
  rw [State.eaDec, fmovSize, if_pos hsz]

/-! ### A check that fails -/

section
variable {s : State} {a x : Quad}

theorem State.pairAligned_fault {fault : Quad → Nat → Option Quad} {k : Result} (h : s.pairFault fault a = some x)
    (hk : (fault a 4).or (fault (a + 4) 4) = some x → k = s.memoryFault x) : s.pairAligned a k = s.memoryFault x := by
  unfold State.pairFault at h
  unfold State.pairAligned
  cases hp : s.params.misaligned <;> simp only [hp, true_and, reduceCtorEq, false_and, if_false] at h ⊢
  case split => exact hk h
  case fault =>
    by_cases ha : a.toNat % 8 = 0
    · rw [if_neg (not_not_intro ha)] at h
      rw [if_pos ha, hk h]
    · rw [if_pos ha] at h
      rw [if_neg ha, Option.some.inj h]

theorem State.loadPair_fault {k : Quad → Result} (h : s.pairFault s.readFault a = some x) :
    s.loadPair a k = s.memoryFault x :=
  State.pairAligned_fault h fun hor => by
    cases hfirst : s.readFault a 4 with
    | some y => rw [hfirst] at hor; cases hor; exact State.checkRead_fault hfirst
    | none => rw [hfirst] at hor; rw [State.checkRead_ok hfirst, State.checkRead_fault hor]

theorem State.checkPair_fault {k : Result} (h : s.pairFault s.writeFault a = some x) : s.checkPair a k = s.memoryFault x :=
  State.pairAligned_fault h fun hor => by
    cases hfirst : s.writeFault a 4 with
    | some y => rw [hfirst] at hor; cases hor; exact State.checkWrite_fault hfirst
    | none => rw [hfirst] at hor; rw [State.checkWrite_ok hfirst, State.checkWrite_fault hor]

/-- In a row of checks, those before the failing one pass. -/
theorem foldr_check {check : Quad → Result → Result} {before after : List Quad} {k r : Result}
    (hbefore : ∀ y ∈ before, ∀ k, check y k = k) (hx : ∀ k, check x k = r) :
    (before ++ x :: after).foldr check k = r := by
  induction before with
  | nil => exact hx _
  | cons y before ih =>
    rw [List.forall_mem_cons] at hbefore
    exact (hbefore.1 _).trans (ih hbefore.2)

/-- One-byte checks at rising addresses report the lowest that fails. -/
theorem foldr_check_firstFault {check : Quad → Result → Result} {fault : Quad → Nat → Option Quad} {l : List Quad} {k r : Result}
    (hsort : l.Pairwise fun y z => y.toNat < z.toNat) (h : FirstFault fault l x)
    (hok : ∀ y, fault y 1 = none → ∀ k, check y k = k) (hx : fault x 1 = some x → ∀ k, check x k = r) :
    l.foldr check k = r := by
  obtain ⟨hmem, hfault, hlow⟩ := h
  obtain ⟨before, after, rfl⟩ := List.append_of_mem hmem
  have hrise := (List.pairwise_append.1 hsort).2.2
  refine foldr_check (fun y hy => hok y (hlow y ?_ ?_)) (hx hfault)
  · exact List.mem_append_left _ hy
  · exact hrise y hy x List.mem_cons_self

theorem State.checkReads_firstFault {l : List Quad} {k : Result} (hsort : l.Pairwise fun y z => y.toNat < z.toNat)
    (h : FirstFault s.readFault l x) : s.checkReads l k = s.memoryFault x :=
  foldr_check_firstFault hsort h (fun _ hy _ => State.checkRead_ok hy) fun hx _ => State.checkRead_fault hx

theorem State.checkWrites_firstFault {l : List Quad} {k : Result} (hsort : l.Pairwise fun y z => y.toNat < z.toNat)
    (h : FirstFault s.writeFault l x) : s.checkWrites l k = s.memoryFault x :=
  foldr_check_firstFault hsort h (fun _ hy _ => State.checkWrite_ok hy) fun hx _ => State.checkWrite_fault hx

theorem movuaAddrs_eq (b : Quad) : movuaAddrs b = bytesFrom b 4 :=
  congrArg (· :: [b + 1, b + 2, b + 3]) (offset_zero b).symm

/-- The bytes of movua.l are read in turn, also where their addresses wrap. -/
theorem State.checkReads_movua {j : Nat} {k : Result} (hj : j < 4) (hx : s.readFault (a + BitVec.ofNat 64 j) 1 = some x)
    (hbefore : ∀ b < j, s.readFault (a + BitVec.ofNat 64 b) 1 = none) :
    s.checkReads (movuaAddrs a) k = s.memoryFault x := by
  obtain ⟨r, hr⟩ : ∃ r, 4 = j + (r + 1) := ⟨3 - j, by omega⟩
  rw [movuaAddrs_eq, hr, bytesFrom_append, bytesFrom_succ]
  refine foldr_check (fun y hy _ => ?_) fun _ => State.checkRead_fault hx
  obtain ⟨b, hb, rfl⟩ := mem_bytesFrom.1 hy
  exact State.checkRead_ok (hbefore b hb)

end

/-! ### The addresses of the misaligned pairs (46 R655, R659) -/

/-- The bytes of the aligned block at `a` and above, or at `a` and below, in the order in which the plans take them. -/
def blockRun (up : Bool) (a : Quad) (n : Nat) : List Quad :=
  if up then bytesFrom a (n - a.toNat % n) else bytesFrom (a - BitVec.ofNat 64 (a.toNat % n)) (a.toNat % n + 1)

theorem loPlan_addresses (e : Endian) (a : Quad) (n : Nat) : (loPlan e a n).map Prod.fst = blockRun (e == .little) a n := by
  cases e <;> simp [loPlan, blockRun, bytesFrom]

theorem hiPlan_addresses (e : Endian) (a : Quad) (n : Nat) : (hiPlan e a n).map Prod.fst = blockRun (e == .big) a n := by
  cases e <;> simp [hiPlan, blockRun, bytesFrom]

theorem sub_offset_add (a : Quad) {i o : Nat} (h : i ≤ o) :
    a - BitVec.ofNat 64 o + BitVec.ofNat 64 i = a - BitVec.ofNat 64 (o - i) := by
  obtain ⟨q, rfl⟩ := Nat.exists_eq_add_of_le h
  rw [BitVec.ofNat_add, Nat.add_sub_cancel_left, ← sub_sub, sub_right_comm, sub_add_cancel]

theorem mem_blockRun {up : Bool} {a y : Quad} {n : Nat} : y ∈ blockRun up a n ↔ y ∈ blockPart up a n := by
  cases up with
  | true => rfl
  | false =>
    have hpart : y ∈ blockPart false a n ↔ ∃ q < a.toNat % n + 1, a - BitVec.ofNat 64 q = y := by
      simp [blockPart, blockCount, blockAddr]
    rw [hpart, show blockRun false a n = bytesFrom _ _ from rfl, mem_bytesFrom]
    constructor
    · rintro ⟨i, hi, rfl⟩
      exact ⟨a.toNat % n - i, by omega, (sub_offset_add a (by omega)).symm⟩
    · rintro ⟨q, hq, rfl⟩
      refine ⟨a.toNat % n - q, by omega, ?_⟩
      rw [sub_offset_add a (by omega), Nat.sub_sub_self (by omega)]

/-- The addresses of a run that ends below the top of the address space rise. -/
theorem bytesFrom_rising {a : Quad} {n : Nat} (h : a.toNat + n ≤ 2 ^ 64) :
    (bytesFrom a n).Pairwise fun y z => y.toNat < z.toNat := by
  rw [bytesFrom, List.pairwise_map]
  refine List.pairwise_lt_range.imp_of_mem fun {i j} hi hj hlt => ?_
  have hj : j < n := List.mem_range.1 hj
  rw [BitVec.toNat_add, BitVec.toNat_add, BitVec.toNat_ofNat, BitVec.toNat_ofNat]
  omega

/-- A block of 4 or 8 bytes does not wrap. -/
theorem blockRun_rising (up : Bool) (a : Quad) {n : Nat} (hn : n ∣ 2 ^ 64) :
    (blockRun up a n).Pairwise fun y z => y.toNat < z.toNat := by
  have ha := a.isLt
  have hpos : 0 < n := Nat.pos_of_dvd_of_pos hn (by decide)
  have hmod := Nat.mod_lt a.toNat hpos
  cases up with
  | true =>
    refine bytesFrom_rising ?_
    obtain ⟨c, hc⟩ := hn
    have hblock : a.toNat / n < c := Nat.div_lt_of_lt_mul (hc ▸ ha)
    have hle : n * (a.toNat / n) + n ≤ n * c := Nat.mul_le_mul_left n hblock
    have hdiv := Nat.div_add_mod a.toNat n
    omega
  | false =>
    refine bytesFrom_rising ?_
    have hle := Nat.mod_le a.toNat n
    rw [BitVec.toNat_sub, BitVec.toNat_ofNat]
    omega

theorem FirstFault.of_mem_iff {fault : Quad → Nat → Option Quad} {l l' : List Quad} {x : Quad} (hl : ∀ y, y ∈ l' ↔ y ∈ l)
    (h : FirstFault fault l x) : FirstFault fault l' x :=
  let ⟨hmem, hfault, hlow⟩ := h
  ⟨(hl x).2 hmem, hfault, fun y hy => hlow y ((hl y).1 hy)⟩

theorem State.checkReads_block {s : State} {up : Bool} {a x : Quad} {n : Nat} {k : Result} (hn : n ∣ 2 ^ 64)
    (h : FirstFault s.readFault (blockPart up a n) x) : s.checkReads (blockRun up a n) k = s.memoryFault x :=
  State.checkReads_firstFault (blockRun_rising up a hn) (h.of_mem_iff fun _ => mem_blockRun)

theorem State.checkWrites_block {s : State} {up : Bool} {a x : Quad} {n : Nat} {k : Result} (hn : n ∣ 2 ^ 64)
    (h : FirstFault s.writeFault (blockPart up a n) x) : s.checkWrites (blockRun up a n) k = s.memoryFault x :=
  State.checkWrites_firstFault (blockRun_rising up a hn) (h.of_mem_iff fun _ => mem_blockRun)

end Sys2Proof.Machine
end

section
/-! SUPPORT. The check that each form's meaning opens with, and what it reports when that check fails (20 R85 to R89, 60 R852). -/

namespace Sys2Proof.Machine

/-- The meaning of `i` is a check with some continuation. -/
def Opens {β : Type} (i : Instr) (s : State) (check : β → Result) : Prop := ∃ k, exec i s = check k

section
variable {β : Type} {i : Instr} {s : State} {a x : Quad}

theorem Opens.reports {check : β → Result} (h : Opens i s check) (hfault : ∀ k, check k = s.memoryFault x) :
    ReportsMemory i s x :=
  let ⟨k, hk⟩ := h
  hk.trans (hfault k)

/-- A form that stands in a list, with its operand, opens with its check if every form of the list does. -/
theorem opens_of_mem {α : Type} {check : α → β → Result} {v : α} {l : List (Instr × α)} (h : (i, v) ∈ l)
    (hl : l.Forall fun t => Opens t.1 s (check t.2)) : Opens i s (check v) := List.forall_iff_forall_mem.1 hl (i, v) h

theorem opens_of_mem_accesses {check : Quad → Nat → β → Result} {z : Nat} {l : List (Instr × Quad × Nat)} (h : (i, a, z) ∈ l)
    (hl : l.Forall fun t => Opens t.1 s (check t.2.1 t.2.2)) : Opens i s (check a z) :=
  opens_of_mem (check := fun v => check v.1 v.2) h hl

/-! The misaligned pairs (46 R655 to R662): one-byte checks over a run of the block. -/

theorem opens_loadPlan_lo {n : Nat} {k : Quad → Result} (h : exec i s = s.loadPlan (loPlan s.endian a n) k) :
    Opens i s (s.checkReads (blockRun (s.endian == .little) a n)) :=
  ⟨_, h.trans (by rw [State.loadPlan, loPlan_addresses])⟩

theorem opens_loadPlan_hi {n : Nat} {k : Quad → Result} (h : exec i s = s.loadPlan (hiPlan s.endian a n) k) :
    Opens i s (s.checkReads (blockRun (s.endian == .big) a n)) :=
  ⟨_, h.trans (by rw [State.loadPlan, hiPlan_addresses])⟩

theorem opens_storePlan_lo {n : Nat} {v : Quad} (h : exec i s = s.storePlan (loPlan s.endian a n) v) :
    Opens i s (s.checkWrites (blockRun (s.endian == .little) a n)) :=
  ⟨_, h.trans (by rw [State.storePlan, loPlan_addresses])⟩

theorem opens_storePlan_hi {n : Nat} {v : Quad} (h : exec i s = s.storePlan (hiPlan s.endian a n) v) :
    Opens i s (s.checkWrites (blockRun (s.endian == .big) a n)) :=
  ⟨_, h.trans (by rw [State.storePlan, hiPlan_addresses])⟩

theorem block_dvd {il iq : Instr} {z : Nat} (h : (i, z) ∈ [(il, 4), (iq, 8)]) : z ∣ 2 ^ 64 := by
  rcases List.mem_pair.1 h with hz | hz
  · rw [(Prod.mk.inj hz).2]; decide
  · rw [(Prod.mk.inj hz).2]; decide

/-- The long and the quad form of a pair load. -/
theorem reports_block_read {il iq : Instr} {z : Nat} {up : Bool} (h : (i, z) ∈ [(il, 4), (iq, 8)])
    (hx : FirstFault s.readFault (blockPart up a z) x) (hl : Opens il s (s.checkReads (blockRun up a 4)))
    (hq : Opens iq s (s.checkReads (blockRun up a 8))) : ReportsMemory i s x := by
  have hopens : Opens i s (s.checkReads (blockRun up a z)) :=
    opens_of_mem (check := fun z => s.checkReads (blockRun up a z)) h ⟨hl, hq⟩
  exact hopens.reports fun _ => State.checkReads_block (block_dvd h) hx

/-- The long and the quad form of a pair store. -/
theorem reports_block_write {il iq : Instr} {z : Nat} {up : Bool} (h : (i, z) ∈ [(il, 4), (iq, 8)])
    (hx : FirstFault s.writeFault (blockPart up a z) x) (hl : Opens il s (s.checkWrites (blockRun up a 4)))
    (hq : Opens iq s (s.checkWrites (blockRun up a 8))) : ReportsMemory i s x := by
  have hopens : Opens i s (s.checkWrites (blockRun up a z)) :=
    opens_of_mem (check := fun z => s.checkWrites (blockRun up a z)) h ⟨hl, hq⟩
  exact hopens.reports fun _ => State.checkWrites_block (block_dvd h) hx

end

/-- Settles O45: every form's meaning opens with the checks of its accesses, in their order, and a check that fails reports. -/
theorem dataFaultsChangeNothing : Obligations.DataFaultsChangeNothing := by
  intro s m n d e l p g h k imm u i a x z
  simp only [State.pcLong_address, State.sext64_index, ofInt_eq_sx64, ofInt_mul_two, ofInt_mul_four, ofInt_mul_eight,
    ofNat_eq_zx32, ofNat_mul_two, ofNat_mul_four, ofNat_mul_eight]
  refine ⟨fun hform hx => ?read, fun hform hx => ?write, fun hform hfirst hx => ?second, fun hform hfirst hx => ?modify,
    fun hform hx => ?readPair, fun hform hx => ?writePair, fun hform hfault j hj hx hbefore => ?movua, ?blocks⟩
  case read =>
    have hopens : Opens i s (s.checkRead a z) := by
      rcases hform with hform | ⟨hk, hform⟩ | ⟨hl, ⟨⟩⟩ | ⟨hsz, hform⟩
      · refine opens_of_mem_accesses hform ?_
        simp only [List.Forall]
        -- The meanings of these forms unfold to the check itself, with no condition before it.
        and_intros <;> exact ⟨_, rfl⟩
      · exact opens_of_mem_accesses hform
          ⟨⟨_, State.require_even hk⟩, _, State.require_even hk⟩
      · exact ⟨_, if_neg (not_msb_disp12 hl)⟩
      · have hsz := ne_true_of_eq_false hsz
        exact opens_of_mem_accesses hform ⟨⟨_, if_neg hsz⟩, ⟨_, if_neg hsz⟩, _, if_neg hsz⟩
    exact hopens.reports fun _ => State.checkRead_fault hx
  case write =>
    have hopens : Opens i s (s.checkWrite a z) := by
      rcases hform with hform | ⟨hk, hform⟩ | ⟨hl, ⟨⟩⟩ | ⟨hsz, hform⟩
      · refine opens_of_mem_accesses hform ?_
        simp only [List.Forall]
        and_intros <;> exact ⟨_, rfl⟩
      · exact opens_of_mem_accesses hform
          ⟨⟨_, State.require_even hk⟩, _, State.require_even hk⟩
      · exact ⟨_, if_neg (not_msb_disp12 hl)⟩
      · have hsz := ne_true_of_eq_false hsz
        rw [s.eaDec_single n hsz] at hform
        exact opens_of_mem_accesses hform ⟨⟨_, if_neg hsz⟩, ⟨_, if_neg hsz⟩, _, if_neg hsz⟩
    exact hopens.reports fun _ => State.checkWrite_fault hx
  case second =>
    have hopens : Opens i s fun k => s.checkRead (sext64 (s.r n)) z (s.checkRead
        (sext64 (macSecond s m n (BitVec.ofNat 32 z))) z k) :=
      opens_of_mem (check := fun z k => s.checkRead (sext64 (s.r n)) z (s.checkRead
        (sext64 (macSecond s m n (BitVec.ofNat 32 z))) z k)) hform ⟨⟨_, rfl⟩, _, rfl⟩
    exact hopens.reports fun _ => (State.checkRead_ok hfirst).trans (State.checkRead_fault hx)
  case modify =>
    have hopens : Opens i s fun k => s.checkRead a z (s.checkWrite a z k) :=
      opens_of_mem_accesses (check := fun a z k => s.checkRead a z (s.checkWrite a z k)) hform
        ⟨⟨_, rfl⟩, ⟨_, rfl⟩, ⟨_, rfl⟩, ⟨_, rfl⟩, _, rfl⟩
    exact hopens.reports fun _ => (State.checkRead_ok hfirst).trans (State.checkWrite_fault hx)
  case readPair =>
    have hopens : Opens i s (s.loadPair a) := by
      rcases hform with ⟨hk, hform⟩ | ⟨hl, ⟨⟩⟩ | ⟨hsz, hform⟩
      · exact opens_of_mem hform ⟨⟨_, State.require_even hk⟩, _, State.require_even hk⟩
      · exact ⟨_, if_neg (not_msb_disp12 hl)⟩
      · exact opens_of_mem hform ⟨⟨_, if_pos hsz⟩, ⟨_, if_pos hsz⟩, _, if_pos hsz⟩
    exact hopens.reports fun _ => State.loadPair_fault hx
  case writePair =>
    have hopens : Opens i s (s.checkPair a) := by
      rcases hform with ⟨hk, hform⟩ | ⟨hl, ⟨⟩⟩ | ⟨hsz, hform⟩
      · exact opens_of_mem hform ⟨⟨_, State.require_even hk⟩, _, State.require_even hk⟩
      · exact ⟨_, if_neg (not_msb_disp12 hl)⟩
      · rw [s.eaDec_pair n hsz] at hform
        exact opens_of_mem hform ⟨⟨_, if_pos hsz⟩, ⟨_, if_pos hsz⟩, _, if_pos hsz⟩
    exact hopens.reports fun _ => State.checkPair_fault hx
  case movua =>
    have hopens : Opens i s (s.checkReads (movuaAddrs (s.eaReg m))) := by
      rcases List.mem_pair.1 hform with rfl | rfl
      · exact ⟨_, rfl⟩
      · exact ⟨_, rfl⟩
    subst hx
    exact hopens.reports fun _ => State.checkReads_movua hj hfault hbefore
  case blocks =>
    rintro rfl
    refine ⟨fun hform hx => ?_, fun hform hx => ?_, fun hform hx => ?_, fun hform hx => ?_⟩
    · exact reports_block_read hform hx (opens_loadPlan_lo (Eq.refl (execMLdloL g u k s)))
        (opens_loadPlan_lo (Eq.refl (execMLdloQ g u k s)))
    · exact reports_block_read hform hx (opens_loadPlan_hi (Eq.refl (execMLdhiL g u k s)))
        (opens_loadPlan_hi (Eq.refl (execMLdhiQ g u k s)))
    · exact reports_block_write hform hx (opens_storePlan_lo rfl) (opens_storePlan_lo rfl)
    · exact reports_block_write hform hx (opens_storePlan_hi rfl) (opens_storePlan_hi rfl)

end Sys2Proof.Machine
end

section
/-! SUPPORT. The decoder and the encoder are inverse to each other (spec 30 R112, R118, R126). The row that a code matches,
leaving `COMPACT_EXT` aside, is `Code.row`; the row of `encode i` is `i`, and a code whose row is `i` is `encode i`. -/

namespace Sys2Proof

/-! ### The row that a code matches, and what `COMPACT_EXT` adds to it -/

/-- The row that a code matches, whether or not `COMPACT_EXT` admits it (30 R126). -/
noncomputable def Code.row : Code → Option Instr
  | .half h => decodeCompact16 h
  | .pair h h2 => decodeCompact32 h h2
  | .word w => decodeMedia w

theorem admitted_eq_ok_iff {x : CompactExt} {r : Option Instr} {i : Instr} :
    admitted x r = .ok i ↔ r = some i ∧ admits x i = true := by
  cases r with
  | none => simp [admitted]
  | some j =>
    rw [admitted]
    constructor
    · intro h
      split at h
      · cases h; exact ⟨rfl, ‹_›⟩
      · cases h
    · rintro ⟨⟨⟩, ha⟩
      exact if_pos ha

/-! ### A word is put together from its fields -/

theorem extract_append_extract {w : Nat} (x : BitVec w) (k p q : Nat) :
    x.extractLsb' (k + q) p ++ x.extractLsb' k q = x.extractLsb' k (p + q) := by
  rw [BitVec.extractLsb'_append_extractLsb'_eq_extractLsb' rfl]

theorem c4_fields (h : Half) : c4 (topN h) (nN h) (mN h) (zN h) = h := by
  rw [c4, topN, nN, mN, zN, extract_append_extract h 8 4 4, extract_append_extract h 4 8 4, extract_append_extract h 0 12 4]
  exact extract_all h

theorem c48_fields (h : Half) : c48 (topN h) (nN h) (imm8F h) = h := by
  rw [c48, topN, nN, imm8F, extract_append_extract h 8 4 4, extract_append_extract h 0 8 8]
  exact extract_all h

theorem c412_fields (h : Half) : c412 (topN h) (disp12F h) = h := by
  rw [c412, topN, disp12F, extract_append_extract h 0 4 12]
  exact extract_all h

theorem w6_fields {w : Word} (hr : resF w = 0#4) : w6 (opF w) (mF w) (extF w) (nF w) (dF w) = w := by
  rw [w6, ← hr, opF, mF, extF, nF, dF, resF, extract_append_extract w 20 6 6, extract_append_extract w 16 12 4,
    extract_append_extract w 10 16 6, extract_append_extract w 4 22 6, extract_append_extract w 0 28 4]
  exact extract_all w

theorem w10_fields {w : Word} (hr : resF w = 0#4) : w10 (opF w) (mF w) (imm10F w) (dF w) = w := by
  rw [w10, ← hr, opF, mF, imm10F, dF, resF, extract_append_extract w 20 6 6, extract_append_extract w 10 12 10,
    extract_append_extract w 4 22 6, extract_append_extract w 0 28 4]
  exact extract_all w

theorem w16_fields {w : Word} (hr : resF w = 0#4) : w16 (opF w) (imm16F w) (dF w) = w := by
  rw [w16, ← hr, opF, imm16F, dF, resF, extract_append_extract w 10 6 16,
    extract_append_extract w 4 22 6, extract_append_extract w 0 28 4]
  exact extract_all w

theorem branchD_fields {d : BitVec 6} (hd : branchRes d = 0#2) : branchD (likelyF d) (targetF d) = d := by
  rw [branchD, ← hd, likelyF, targetF, branchRes, extract_append_extract d 3 1 2, extract_append_extract d 0 3 3]
  exact extract_all d

theorem trM_field {m : BitVec 6} (hm : m.extractLsb' 3 3 = 0#3) : trM (m.extractLsb' 0 3) = m := by
  rw [trM, ← hm, extract_append_extract m 0 3 3]
  exact extract_all m

/-- A double-register field: three bits above a clear one (30 R115). -/
theorem drField_append {n : BitVec 4} (hn : n.extractLsb' 0 1 = 0#1) : n.extractLsb' 1 3 ++ 0#1 = n := by
  rw [← hn, extract_append_extract n 0 3 1]
  exact extract_all n

/-- The two vector-register fields of a nibble (30 R115). -/
theorem fvField_append (n : BitVec 4) : n.extractLsb' 2 2 ++ n.extractLsb' 0 2 = n :=
  (extract_append_extract n 0 2 2).trans (extract_all n)

/-! The words of a given top nibble or major opcode, put together from their other fields. -/

section
variable {h : Half} {t : BitVec 4} {w : Word} {op : BitVec 6}

theorem c4_of_nibbles {z : BitVec 4} (ht : topN h = t) (hz : zN h = z) : c4 t (nN h) (mN h) z = h := by
  rw [← ht, ← hz, c4_fields]

theorem c412_of_nibble (ht : topN h = t) : c412 t (disp12F h) = h := by rw [← ht, c412_fields]

theorem half_c4 (ht : topN h = t) : Code.half (c4 t (nN h) (mN h) (zN h)) = .half h := by rw [c4_of_nibbles ht rfl]

theorem half_c48 (ht : topN h = t) : Code.half (c48 t (nN h) (imm8F h)) = .half h := by rw [← ht, c48_fields]

theorem half_c412 (ht : topN h = t) : Code.half (c412 t (disp12F h)) = .half h := by rw [c412_of_nibble ht]

theorem word_w6 (hr : resF w = 0#4) (ho : opF w = op) : Code.word (w6 op (mF w) (extF w) (nF w) (dF w)) = .word w := by
  rw [← ho, w6_fields hr]

theorem word_w10 (hr : resF w = 0#4) (ho : opF w = op) : Code.word (w10 op (mF w) (imm10F w) (dF w)) = .word w := by
  rw [← ho, w10_fields hr]

theorem word_w16 (hr : resF w = 0#4) (ho : opF w = op) : Code.word (w16 op (imm16F w) (dF w)) = .word w := by
  rw [← ho, w16_fields hr]

end

/-! ### The row of an encoded instruction is the instruction -/

/-! By the shape of the encoded word: its fields are the ones put in, and with them the decoder's table evaluates. -/

theorem Code.row_encode_compact (i : Instr) (hi : Machine.codeIsm (encode i) = .compact) : (encode i).row = some i := by
  cases i with
  -- no operand
  | cDiv0u | cRts | cClrmac | cClrs | cClrt | cSets | cSett | cNop | cBrk | cFrchg | cFschg => rfl
  -- four nibbles
  | cAdd | cAddc | cAddv | cCmpEq | cCmpHs | cCmpGe | cCmpHi | cCmpGt | cCmpPz | cCmpPl | cCmpStr | cDiv0s | cDiv1 | cDivu
  | cDmulsL | cDmuluL | cDt | cExtsB | cExtsW | cExtuB | cExtuW | cMacL | cMacW | cMulL | cMulr | cMulsW | cMuluW | cNeg
  | cNegc | cSub | cSubc | cSubv | cAnd | cNot | cOr | cTasB | cTst | cXor | cRotl | cRotr | cRotcl | cRotcr | cShad | cShal
  | cShar | cShld | cShll | cShll2 | cShll8 | cShll16 | cShlr | cShlr2 | cShlr8 | cShlr16 | cMov | cMovBLoad | cMovWLoad
  | cMovLLoad | cMovBLoadInc | cMovWLoadInc | cMovLLoadInc | cMovBLoadIdx | cMovWLoadIdx | cMovLLoadIdx | cMovBLoadDisp
  | cMovWLoadDisp | cMovLLoadDisp | cMovuaL | cMovuaLInc | cMovBStore | cMovWStore | cMovLStore | cMovBStoreDec
  | cMovWStoreDec | cMovLStoreDec | cMovBStoreIdx | cMovWStoreIdx | cMovLStoreIdx | cMovBStoreDisp | cMovWStoreDisp
  | cMovLStoreDisp | cMovcaL | cMovcoL | cMovliL | cMovt | cSwapB | cSwapW | cXtrct | cBraf | cBsrf | cJmp | cJsr | cLdcSr
  | cLdcGbr | cLdcVbr | cLdcLGbr | cLdcLVbr | cLdsMach | cLdsMacl | cLdsPr | cLdsLMach | cLdsLMacl | cLdsLPr | cStcGbr
  | cStcVbr | cStcLGbr | cStcLVbr | cStsMach | cStsMacl | cStsPr | cStsLMach | cStsLMacl | cStsLPr | cPref | cOcbi | cOcbp
  | cOcbwb | cFabs | cFneg | cFadd | cFsub | cFmul | cFdiv | cFsqrt | cFcmpEq | cFcmpGt | cFmac | cFldi0 | cFldi1 | cFlds
  | cFsts | cFloat | cFtrc | cFmov | cFmovLoad | cFmovLoadInc | cFmovLoadIdx | cFmovStore | cFmovStoreDec | cFmovStoreIdx
  | cLdsFpscr | cLdsFpul | cLdsLFpscr | cLdsLFpul | cStsFpscr | cStsFpul | cStsLFpscr | cStsLFpul =>
    change decodeCompact16 (c4 _ _ _ _) = _
    rw [decodeCompact16, topN_c4, nN_c4, mN_c4, zN_c4]
    rfl
  | cFcnvsd | cFcnvds | cFipr | cFtrv =>
    change decodeCompact16 (c4 0xF#4 _ _ 0xD#4) = _
    rw [decodeCompact16, topN_c4, nN_c4, mN_c4, zN_c4]
    simp [decodeTopF]
  -- an 8-bit or a 12-bit field
  | cAddImm | cCmpEqImm | cAndImm | cAndB | cOrImm | cOrB | cTstImm | cTstB | cXorImm | cXorB | cMovImm | cMova
  | cMovWLoadPc | cMovLLoadPc | cMovBLoadGbr | cMovWLoadGbr | cMovLLoadGbr | cMovBStoreGbr | cMovWStoreGbr | cMovLStoreGbr
  | cBf | cBfS | cBt | cBtS | cTrapa =>
    change decodeCompact16 (c48 _ _ _) = _
    rw [decodeCompact16, topN_c48, nN_c48, imm8F_c48]
    rfl
  | cBra | cBsr =>
    change decodeCompact16 (c412 _ _) = _
    rw [decodeCompact16, topN_c412, disp12F_c412]
    rfl
  -- two halfwords
  | cMovi20 | cMovi20s =>
    change decodeCompact32 (c4 _ _ _ _) _ = _
    simp [decodeCompact32, append_extract]
  | cMovLLoadDisp12 | cMovLStoreDisp12 | cFmovLoadDisp12 | cFmovStoreDisp12 =>
    change decodeCompact32 (c4 _ _ _ _) (c412 _ _) = _
    simp [decodeCompact32]
  | _ => cases hi

theorem Code.row_encode_media (i : Instr) (hi : Machine.codeIsm (encode i) = .media) : (encode i).row = some i := by
  cases i with
  -- no operand
  | mBrk | mRte | mSleep | mSynci | mSynco | mNop => rfl
  -- an immediate
  | mAddi | mAddiL | mAndi | mOri | mLdB | mLdW | mLdL | mLdQ | mLdUb | mLdUw | mStB | mStW | mStL | mStQ | mFldS | mFldP
  | mFldD | mFstS | mFstP | mFstD =>
    change decodeMedia (w10 _ _ _ _) = _
    rw [decodeMedia, resF_w10, if_pos rfl, opF_w10, mF_w10, imm10F_w10, dF_w10]
    rfl
  | mMovi | mShori =>
    change decodeMedia (w16 _ _ _) = _
    rw [decodeMedia, resF_w16, if_pos rfl, opF_w16, imm16F_w16, dF_w16]
    rfl
  | mPta | mPtb =>
    change decodeMedia (w16 _ _ (branchD _ _)) = _
    rw [decodeMedia, resF_w16, if_pos rfl, opF_w16, imm16F_w16, dF_w16, branchRes_branchD, likelyF_branchD, targetF_branchD]
    rfl
  -- an ext field
  | mPtabs | mPtrel | mBeq | mBge | mBne | mBgt | mBgeu | mBgtu | mBeqi | mBnei =>
    change decodeMedia (w6 _ _ _ _ (branchD _ _)) = _
    rw [decodeMedia, resF_w6, if_pos rfl, opF_w6, mF_w6, extF_w6, nF_w6, dF_w6]
    simp [decodeMajor25, decodeMajor26, decodeMajor57]
  | mGettr | mBlink =>
    change decodeMedia (w6 _ (trM _) _ _ _) = _
    rw [decodeMedia, resF_w6, if_pos rfl, opF_w6, mF_w6, extF_w6, nF_w6, dF_w6]
    simp [decodeMajor17]
  | mAdd | mAddL | mAddzL | mSub | mSubL | mAnd | mAndc | mOr | mXor | mXori | mCmpeq | mCmpgt | mCmpgtu | mCmveq | mCmvne
  | mNsb | mByterev | mMuluL | mMulsL | mShlld | mShlldL | mShlrd | mShlrdL | mShard | mShardL | mShlli | mShlliL | mShlri
  | mShlriL | mShari | mShariL | mMaddW | mMaddL | mMaddsUb | mMaddsW | mMaddsL | mMsubW | mMsubL | mMsubsUb | mMsubsW
  | mMsubsL | mMabsW | mMabsL | mMcmpeqB | mMcmpeqW | mMcmpeqL | mMcmpgtUb | mMcmpgtW | mMcmpgtL | mMcmv | mMcnvsLw
  | mMcnvsWb | mMcnvsWub | mMextr1 | mMextr2 | mMextr3 | mMextr4 | mMextr5 | mMextr6 | mMextr7 | mMmacfxWl | mMmacnfxWl
  | mMmulW | mMmulL | mMmulfxW | mMmulfxL | mMmulfxrpW | mMmulhiWl | mMmulloWl | mMmulsumWq | mMpermW | mMsadUbq | mMshaldsW
  | mMshaldsL | mMshardW | mMshardL | mMshardsQ | mMshlldW | mMshlldL | mMshlrdW | mMshlrdL | mMshfloB | mMshfloW | mMshfloL
  | mMshfhiB | mMshfhiW | mMshfhiL | mLdxB | mLdxW | mLdxL | mLdxQ | mLdxUb | mLdxUw | mStxB | mStxW | mStxL | mStxQ
  | mLdloL | mLdloQ | mLdhiL | mLdhiQ | mStloL | mStloQ | mSthiL | mSthiQ | mSwapQ | mPrefi | mAlloco | mIcbi | mOcbp
  | mOcbi | mOcbwb | mGetcfg | mPutcfg | mGetcon | mPutcon | mTrapa | mFabsS | mFabsD | mFnegS | mFnegD | mFaddS | mFaddD
  | mFsubS | mFsubD | mFdivS | mFdivD | mFmulS | mFmulD | mFmacS | mFsqrtS | mFsqrtD | mFcmpeqS | mFcmpeqD | mFcmpunS
  | mFcmpunD | mFcmpgtS | mFcmpgtD | mFcmpgeS | mFcmpgeD | mFmovS | mFmovD | mFcnvSd | mFcnvDs | mFtrcSl | mFtrcDq | mFtrcSq
  | mFtrcDl | mFloatLs | mFloatQd | mFloatLd | mFloatQs | mFmovSl | mFmovDq | mFmovLs | mFmovQd | mFgetscr | mFputscr
  | mFiprS | mFtrvS | mFldxS | mFldxD | mFldxP | mFstxS | mFstxD | mFstxP =>
    change decodeMedia (w6 _ _ _ _ _) = _
    rw [decodeMedia, resF_w6, if_pos rfl, opF_w6, mF_w6, extF_w6, nF_w6, dF_w6]
    rfl
  | _ => cases hi

theorem Code.row_encode (i : Instr) : (encode i).row = some i := by
  cases hi : Machine.codeIsm (encode i) with
  | compact => exact Code.row_encode_compact i hi
  | media => exact Code.row_encode_media i hi

/-! ### A code that has a row is the encoding of its instruction: the compact halfwords, by top nibble (30 R121) -/

section
variable {n m z : BitVec 4} {i8 : BitVec 8} {i : Instr}

theorem encode_of_decodeTop0 (hd : decodeTop0 n m z = some i) : encode i = .half (c4 0x0#4 n m z) := by
  unfold decodeTop0 at hd
  repeat' split at hd
  all_goals cases hd
  all_goals subst_vars; rfl

theorem encode_of_decodeTop2 (hd : decodeTop2 n m z = some i) : encode i = .half (c4 0x2#4 n m z) := by
  unfold decodeTop2 at hd
  split at hd <;> cases hd <;> rfl

theorem encode_of_decodeTop3 (hd : decodeTop3 n m z = some i) : encode i = .half (c4 0x3#4 n m z) := by
  unfold decodeTop3 at hd
  split at hd <;> cases hd <;> rfl

theorem encode_of_decodeTop4 (hd : decodeTop4 n m z = some i) : encode i = .half (c4 0x4#4 n m z) := by
  unfold decodeTop4 at hd
  repeat' split at hd
  all_goals cases hd <;> rfl

theorem encode_of_decodeTop6 (hd : decodeTop6 n m z = some i) : encode i = .half (c4 0x6#4 n m z) := by
  unfold decodeTop6 at hd
  split at hd <;> cases hd <;> rfl

/-- The rows of top nibble 8 read its other bits as two nibbles or as one 8-bit field. -/
theorem encode_of_decodeTop8 (hw : c4 0x8#4 n m z = c48 0x8#4 n i8) (hd : decodeTop8 n m z i8 = some i) :
    encode i = .half (c48 0x8#4 n i8) := by
  unfold decodeTop8 at hd
  split at hd
  case h_1 | h_2 | h_3 | h_4 => cases hd; exact congrArg Code.half hw
  all_goals cases hd <;> rfl

theorem encode_of_decodeTopC (hd : decodeTopC n i8 = some i) : encode i = .half (c48 0xC#4 n i8) := by
  unfold decodeTopC at hd
  split at hd <;> cases hd <;> rfl

/-- The rows of the double registers and of the vectors fix the low bits of the nibble that names them (30 R115). -/
theorem encode_of_decodeTopF (hd : decodeTopF n m z = some i) : encode i = .half (c4 0xF#4 n m z) := by
  unfold decodeTopF at hd
  split at hd
  case h_14 =>
    split at hd
    case h_10 | h_11 =>
      obtain ⟨hn, ⟨⟩⟩ := Option.ite_none_right_eq_some.1 hd
      change Code.half (c4 _ (_ ++ _) _ _) = _
      rw [drField_append hn]
    case h_12 => cases hd; exact congrArg (fun n => Code.half (c4 0xF#4 n _ _)) (fvField_append n)
    case h_13 =>
      split at hd
      case isTrue hn =>
        cases hd
        change Code.half (c4 _ (_ ++ _) _ _) = _
        rw [← hn, fvField_append]
      case isFalse =>
        split at hd
        case isTrue hn => cases hd; subst hn; rfl
        case isFalse => obtain ⟨rfl, ⟨⟩⟩ := Option.ite_none_right_eq_some.1 hd; rfl
    all_goals cases hd <;> rfl
  all_goals cases hd <;> rfl

end

/-! ### The media words, by major opcode (30 R122)

In the rows without a fixed field the encoder's arm is the decoder's pattern, field for field. A fixed field is a guard of the
row: it puts the field's bits back. -/

section
variable {e : BitVec 4} {m n d : BitVec 6} {i : Instr}

theorem encode_of_decodeMajor1 (hd : decodeMajor1 e m n d = some i) : encode i = .word (w6 0x1#6 m e n d) := by
  unfold decodeMajor1 at hd
  split at hd <;> cases hd <;> rfl

theorem encode_of_decodeMajor2 (hd : decodeMajor2 e m n d = some i) : encode i = .word (w6 0x2#6 m e n d) := by
  unfold decodeMajor2 at hd
  split at hd <;> cases hd <;> rfl

theorem encode_of_decodeMajor3 (hd : decodeMajor3 e m n d = some i) : encode i = .word (w6 0x3#6 m e n d) := by
  unfold decodeMajor3 at hd
  split at hd <;> cases hd <;> rfl

theorem encode_of_decodeMajor5 (hd : decodeMajor5 e m n d = some i) : encode i = .word (w6 0x5#6 m e n d) := by
  unfold decodeMajor5 at hd
  split at hd <;> cases hd <;> rfl

theorem encode_of_decodeMajor6 (hd : decodeMajor6 e m n d = some i) : encode i = .word (w6 0x6#6 m e n d) := by
  unfold decodeMajor6 at hd
  split at hd <;> cases hd <;> rfl

theorem encode_of_decodeMajor8 (hd : decodeMajor8 e m n d = some i) : encode i = .word (w6 0x8#6 m e n d) := by
  unfold decodeMajor8 at hd
  split at hd <;> cases hd <;> rfl

theorem encode_of_decodeMajor11 (hd : decodeMajor11 e m n d = some i) : encode i = .word (w6 0xB#6 m e n d) := by
  unfold decodeMajor11 at hd
  split at hd <;> cases hd <;> rfl

theorem encode_of_decodeMajor13 (hd : decodeMajor13 e m n d = some i) : encode i = .word (w6 0xD#6 m e n d) := by
  unfold decodeMajor13 at hd
  split at hd <;> cases hd <;> rfl

theorem encode_of_decodeMajor14 (hd : decodeMajor14 e m n d = some i) : encode i = .word (w6 0xE#6 m e n d) := by
  unfold decodeMajor14 at hd
  split at hd <;> cases hd <;> rfl

theorem encode_of_decodeMajor16 (hd : decodeMajor16 e m n d = some i) : encode i = .word (w6 0x10#6 m e n d) := by
  unfold decodeMajor16 at hd
  split at hd <;> cases hd <;> rfl

theorem encode_of_decodeMajor18 (hd : decodeMajor18 e m n d = some i) : encode i = .word (w6 0x12#6 m e n d) := by
  unfold decodeMajor18 at hd
  split at hd <;> cases hd <;> rfl

theorem encode_of_decodeMajor19 (hd : decodeMajor19 e m n d = some i) : encode i = .word (w6 0x13#6 m e n d) := by
  unfold decodeMajor19 at hd
  split at hd <;> cases hd <;> rfl

theorem encode_of_decodeMajor24 (hd : decodeMajor24 e m n d = some i) : encode i = .word (w6 0x18#6 m e n d) := by
  unfold decodeMajor24 at hd
  split at hd <;> cases hd <;> rfl

theorem encode_of_decodeMajor48 (hd : decodeMajor48 e m n d = some i) : encode i = .word (w6 0x30#6 m e n d) := by
  unfold decodeMajor48 at hd
  split at hd <;> cases hd <;> rfl

theorem encode_of_decodeMajor49 (hd : decodeMajor49 e m n d = some i) : encode i = .word (w6 0x31#6 m e n d) := by
  unfold decodeMajor49 at hd
  split at hd <;> cases hd <;> rfl

theorem encode_of_decodeMajor0 (hd : decodeMajor0 e m n d = some i) : encode i = .word (w6 0x0#6 m e n d) := by
  unfold decodeMajor0 at hd
  split at hd
  case h_9 | h_11 => obtain ⟨rfl, ⟨⟩⟩ := Option.ite_none_right_eq_some.1 hd; rfl
  all_goals cases hd <;> rfl

theorem encode_of_decodeMajor9 (hd : decodeMajor9 e m n d = some i) : encode i = .word (w6 0x9#6 m e n d) := by
  unfold decodeMajor9 at hd
  split at hd
  case h_2 => obtain ⟨rfl, ⟨⟩⟩ := Option.ite_none_right_eq_some.1 hd; rfl
  all_goals cases hd <;> rfl

theorem encode_of_decodeMajor10 (hd : decodeMajor10 e m n d = some i) : encode i = .word (w6 0xA#6 m e n d) := by
  unfold decodeMajor10 at hd
  split at hd
  case h_8 | h_9 => obtain ⟨rfl, ⟨⟩⟩ := Option.ite_none_right_eq_some.1 hd; rfl
  all_goals cases hd <;> rfl

theorem encode_of_decodeMajor12 (hd : decodeMajor12 e m n d = some i) : encode i = .word (w6 0xC#6 m e n d) := by
  unfold decodeMajor12 at hd
  split at hd
  case h_3 => obtain ⟨rfl, ⟨⟩⟩ := Option.ite_none_right_eq_some.1 hd; rfl
  all_goals cases hd <;> rfl

theorem encode_of_decodeMajor56 (hd : decodeMajor56 e m n d = some i) : encode i = .word (w6 0x38#6 m e n d) := by
  unfold decodeMajor56 at hd
  split at hd
  case h_1 | h_4 | h_5 | h_8 | h_9 | h_10 => obtain ⟨rfl, ⟨⟩⟩ := Option.ite_none_right_eq_some.1 hd; rfl
  all_goals cases hd <;> rfl

theorem encode_of_decodeMajor7 (hd : decodeMajor7 e m n d = some i) : encode i = .word (w6 0x7#6 m e n d) := by
  unfold decodeMajor7 at hd
  split at hd
  case h_1 | h_2 => obtain ⟨rfl, ⟨⟩⟩ := Option.ite_none_right_eq_some.1 hd; rfl
  case h_3 => obtain ⟨⟨rfl, rfl⟩, ⟨⟩⟩ := Option.ite_none_right_eq_some.1 hd; rfl
  case h_4 => cases hd

theorem encode_of_decodeMajor27 (hd : decodeMajor27 e m n d = some i) : encode i = .word (w6 0x1B#6 m e n d) := by
  unfold decodeMajor27 at hd
  split at hd
  case h_2 => obtain ⟨⟨rfl, rfl⟩, ⟨⟩⟩ := Option.ite_none_right_eq_some.1 hd; rfl
  case h_8 => obtain ⟨rfl, ⟨⟩⟩ := Option.ite_none_right_eq_some.1 hd; rfl
  case h_9 => cases hd
  all_goals obtain ⟨⟨rfl, rfl, rfl⟩, ⟨⟩⟩ := Option.ite_none_right_eq_some.1 hd; rfl

theorem encode_of_decodeMajor17 (hd : decodeMajor17 e m n d = some i) : encode i = .word (w6 0x11#6 m e n d) := by
  unfold decodeMajor17 at hd
  split at hd
  case h_3 => cases hd
  all_goals
    obtain ⟨⟨hm, rfl⟩, ⟨⟩⟩ := Option.ite_none_right_eq_some.1 hd
    change Code.word (w6 _ (trM _) _ _ _) = _
    rw [trM_field hm]

theorem encode_of_decodeMajor25 (hd : decodeMajor25 e m n d = some i) : encode i = .word (w6 0x19#6 m e n d) := by
  unfold decodeMajor25 at hd
  split at hd
  case h_7 => cases hd
  all_goals
    obtain ⟨hb, ⟨⟩⟩ := Option.ite_none_right_eq_some.1 hd
    change Code.word (w6 _ _ _ _ (branchD _ _)) = _
    rw [branchD_fields hb]

theorem encode_of_decodeMajor57 (hd : decodeMajor57 e m n d = some i) : encode i = .word (w6 0x39#6 m e n d) := by
  unfold decodeMajor57 at hd
  split at hd
  case h_3 => cases hd
  all_goals
    obtain ⟨hb, ⟨⟩⟩ := Option.ite_none_right_eq_some.1 hd
    change Code.word (w6 _ _ _ _ (branchD _ _)) = _
    rw [branchD_fields hb]

theorem encode_of_decodeMajor26 (hd : decodeMajor26 e m n d = some i) : encode i = .word (w6 0x1A#6 m e n d) := by
  unfold decodeMajor26 at hd
  split at hd
  case h_3 => cases hd
  all_goals
    obtain ⟨⟨rfl, hb⟩, ⟨⟩⟩ := Option.ite_none_right_eq_some.1 hd
    change Code.word (w6 _ _ _ _ (branchD _ _)) = _
    rw [branchD_fields hb]

end

/-! ### A code that has a row is the encoding of its instruction: every code (30 R112, R118) -/

section
variable {h h2 : Half} {w : Word} {i : Instr}

theorem encode_of_decodeCompact16 (hd : decodeCompact16 h = some i) : encode i = .half h := by
  unfold decodeCompact16 at hd
  split at hd
  case h_1 ht => exact (encode_of_decodeTop0 hd).trans (half_c4 ht)
  case h_2 ht => obtain rfl := Option.some.inj hd; exact half_c4 ht
  case h_3 ht => exact (encode_of_decodeTop2 hd).trans (half_c4 ht)
  case h_4 ht => exact (encode_of_decodeTop3 hd).trans (half_c4 ht)
  case h_5 ht => exact (encode_of_decodeTop4 hd).trans (half_c4 ht)
  case h_6 ht => obtain rfl := Option.some.inj hd; exact half_c4 ht
  case h_7 ht => exact (encode_of_decodeTop6 hd).trans (half_c4 ht)
  case h_8 ht => obtain rfl := Option.some.inj hd; exact half_c48 ht
  case h_9 ht =>
    have hw : c4 0x8#4 (nN h) (mN h) (zN h) = c48 0x8#4 (nN h) (imm8F h) := by rw [← ht, c4_fields, c48_fields]
    exact (encode_of_decodeTop8 hw hd).trans (half_c48 ht)
  case h_10 ht => obtain rfl := Option.some.inj hd; exact half_c48 ht
  case h_11 ht | h_12 ht => obtain rfl := Option.some.inj hd; exact half_c412 ht
  case h_13 ht => exact (encode_of_decodeTopC hd).trans (half_c48 ht)
  case h_14 ht | h_15 ht => obtain rfl := Option.some.inj hd; exact half_c48 ht
  case h_16 ht => exact (encode_of_decodeTopF hd).trans (half_c4 ht)
  case h_17 => cases hd

theorem encode_of_decodeCompact32 (hd : decodeCompact32 h h2 = some i) : encode i = .pair h h2 := by
  unfold decodeCompact32 at hd
  split at hd
  case h_1 ht =>
    split at hd
    case h_1 hz | h_2 hz =>
      cases hd
      change Code.pair (c4 _ _ ((mN h ++ h2).extractLsb' 16 4) _) ((mN h ++ h2).extractLsb' 0 16) = _
      rw [extract_hi _ _ _ _ (by decide), extract_lo _ _ _ _ (by decide), extract_all, extract_all, c4_of_nibbles ht hz]
    case h_3 => cases hd
  case h_2 ht =>
    split at hd
    case h_1 hz =>
      split at hd
      case h_1 hu | h_3 hu => cases hd; exact congrArg₂ Code.pair (c4_of_nibbles ht hz) (c412_of_nibble hu)
      case h_2 hu =>
        obtain ⟨hn, ⟨⟩⟩ := Option.ite_none_right_eq_some.1 hd
        change Code.pair (c4 _ _ (_ ++ _) _) (c412 _ _) = _
        rw [drField_append hn, c4_of_nibbles ht hz, c412_of_nibble hu]
      case h_4 hu =>
        obtain ⟨hn, ⟨⟩⟩ := Option.ite_none_right_eq_some.1 hd
        change Code.pair (c4 _ (_ ++ _) _ _) (c412 _ _) = _
        rw [drField_append hn, c4_of_nibbles ht hz, c412_of_nibble hu]
      case h_5 => cases hd
    case h_2 => cases hd
  case h_3 => cases hd

theorem encode_of_decodeMedia (hd : decodeMedia w = some i) : encode i = .word w := by
  obtain ⟨hr, hd⟩ := Option.ite_none_right_eq_some.1 hd
  split at hd
  case h_1 ho => exact (encode_of_decodeMajor0 hd).trans (word_w6 hr ho)
  case h_2 ho => exact (encode_of_decodeMajor1 hd).trans (word_w6 hr ho)
  case h_3 ho => exact (encode_of_decodeMajor2 hd).trans (word_w6 hr ho)
  case h_4 ho => exact (encode_of_decodeMajor3 hd).trans (word_w6 hr ho)
  case h_5 ho => exact (encode_of_decodeMajor5 hd).trans (word_w6 hr ho)
  case h_6 ho => exact (encode_of_decodeMajor6 hd).trans (word_w6 hr ho)
  case h_7 ho => exact (encode_of_decodeMajor7 hd).trans (word_w6 hr ho)
  case h_8 ho => exact (encode_of_decodeMajor8 hd).trans (word_w6 hr ho)
  case h_9 ho => exact (encode_of_decodeMajor9 hd).trans (word_w6 hr ho)
  case h_10 ho => exact (encode_of_decodeMajor10 hd).trans (word_w6 hr ho)
  case h_11 ho => exact (encode_of_decodeMajor11 hd).trans (word_w6 hr ho)
  case h_12 ho => exact (encode_of_decodeMajor12 hd).trans (word_w6 hr ho)
  case h_13 ho => exact (encode_of_decodeMajor13 hd).trans (word_w6 hr ho)
  case h_14 ho => exact (encode_of_decodeMajor14 hd).trans (word_w6 hr ho)
  case h_15 ho => exact (encode_of_decodeMajor16 hd).trans (word_w6 hr ho)
  case h_16 ho => exact (encode_of_decodeMajor17 hd).trans (word_w6 hr ho)
  case h_17 ho => exact (encode_of_decodeMajor18 hd).trans (word_w6 hr ho)
  case h_18 ho => exact (encode_of_decodeMajor19 hd).trans (word_w6 hr ho)
  case h_19 ho => exact (encode_of_decodeMajor24 hd).trans (word_w6 hr ho)
  case h_20 ho => exact (encode_of_decodeMajor25 hd).trans (word_w6 hr ho)
  case h_21 ho => exact (encode_of_decodeMajor26 hd).trans (word_w6 hr ho)
  case h_22 ho => exact (encode_of_decodeMajor27 hd).trans (word_w6 hr ho)
  case h_39 ho => exact (encode_of_decodeMajor48 hd).trans (word_w6 hr ho)
  case h_40 ho => exact (encode_of_decodeMajor49 hd).trans (word_w6 hr ho)
  case h_47 ho => exact (encode_of_decodeMajor56 hd).trans (word_w6 hr ho)
  case h_48 ho => exact (encode_of_decodeMajor57 hd).trans (word_w6 hr ho)
  case h_23 ho | h_24 ho | h_25 ho | h_26 ho | h_27 ho | h_28 ho | h_29 ho | h_30 ho | h_31 ho | h_32 ho | h_33 ho
      | h_34 ho | h_35 ho | h_36 ho | h_37 ho | h_38 ho | h_43 ho | h_44 ho | h_45 ho | h_46 ho =>
    cases hd; exact word_w10 hr ho
  case h_41 ho | h_42 ho => cases hd; exact word_w16 hr ho
  case h_49 ho | h_50 ho =>
    obtain ⟨hb, ⟨⟩⟩ := Option.ite_none_right_eq_some.1 hd
    change Code.word (w16 _ _ (branchD _ _)) = _
    rw [branchD_fields hb, word_w16 hr ho]
  case h_51 => cases hd

/-- A code has one row at most, and the row's instruction encodes to it, bit for bit. -/
theorem Code.encode_of_row {c : Code} (hd : c.row = some i) : encode i = c := by
  cases c with
  | half h => exact encode_of_decodeCompact16 hd
  | pair h h2 => exact encode_of_decodeCompact32 hd
  | word w => exact encode_of_decodeMedia hd

end

/-! ### The size of a code is the one that its first halfword announces (30 R113, R121) -/

section
variable {x : CompactExt} {h h2 : Half} {i : Instr}

theorem low_nibble_of_bits31 : ∀ z : BitVec 4, z.extractLsb' 1 3 = 0#3 → z = 0x0#4 ∨ z = 0x1#4 := by decide

/-- Only two top nibbles, with few low nibbles, announce four bytes (30 R121). -/
theorem nibbles_of_startsFourByte (hs : startsFourByte x h = true) :
    topN h = 0x0#4 ∧ (zN h = 0x0#4 ∨ zN h = 0x1#4) ∨ topN h = 0x3#4 ∧ zN h = 0x1#4 := by
  simp only [startsFourByte, Bool.or_eq_true, Bool.and_eq_true, beq_iff_eq] at hs
  obtain ⟨⟨ht, hb⟩, -⟩ | ⟨⟨ht, hz⟩, -⟩ := hs
  · refine .inl ⟨ht, low_nibble_of_bits31 _ ?_⟩
    rw [← hb, zN, BitVec.extractLsb'_extractLsb'_of_le (by decide)]
  · exact .inr ⟨ht, hz⟩

/-- No 2-byte row starts as a 4-byte one does. -/
theorem decodeCompact16_of_startsFourByte (hs : startsFourByte x h = true) : decodeCompact16 h = none := by
  obtain ⟨ht, hz | hz⟩ | ⟨ht, hz⟩ := nibbles_of_startsFourByte hs <;> rw [decodeCompact16, ht, hz] <;> rfl

/-- An admitted 4-byte row has its first halfword announce four bytes. -/
theorem startsFourByte_of_encode (he : encode i = .pair h h2) (ha : admits x i = true) : startsFourByte x h = true := by
  cases i with
  | cMovi20 | cMovi20s | cMovLLoadDisp12 | cMovLStoreDisp12 | cFmovLoadDisp12 | cFmovStoreDisp12 =>
    cases he
    simp only [admits] at ha
    simp [startsFourByte, ha]
  | _ => cases he

end

/-- What decodes is an admitted row, and every admitted row decodes. -/
theorem decodeCode_eq_ok_iff {x : CompactExt} {c : Code} {i : Instr} :
    decodeCode x c = .ok i ↔ c.row = some i ∧ admits x i = true := by
  rw [← admitted_eq_ok_iff]
  cases c with
  | half h =>
    cases hs : startsFourByte x h with
    | false => simp [decodeCode, hs, Code.row]
    | true => simp [decodeCode, hs, Code.row, decodeCompact16_of_startsFourByte hs, admitted]
  | pair h h2 =>
    cases hs : startsFourByte x h with
    | false =>
      refine ⟨fun hd => by simp [decodeCode, hs] at hd, fun hd => ?_⟩
      obtain ⟨hrow, ha⟩ := admitted_eq_ok_iff.1 hd
      exact absurd (startsFourByte_of_encode (Code.encode_of_row hrow) ha) (ne_true_of_eq_false hs)
    | true => simp [decodeCode, hs, Code.row]
  | word w => rfl

end Sys2Proof

namespace Sys2Proof.Machine

/-- Settles O39: the row of an encoded instruction is the instruction, and an admitted row decodes. -/
theorem decodeOfEncode : Obligations.DecodeOfEncode :=
  fun _ i ha => decodeCode_eq_ok_iff.2 ⟨Code.row_encode i, ha⟩

/-- Settles O40: what decodes is an admitted row, and a code with a row is the encoding of the row's instruction. -/
theorem encodeOfDecode : Obligations.EncodeOfDecode := fun _ _ _ hd =>
  have ⟨hrow, ha⟩ := decodeCode_eq_ok_iff.1 hd
  ⟨Code.encode_of_row hrow, ha⟩

/-- Settles O41: six of the words are encodings (O39); the last has a reserved bit set. -/
theorem decodedWords : Obligations.DecodedWords :=
  ⟨decodeOfEncode _ (.cAdd 5 3) rfl, decodeOfEncode _ (.cBf 0xFE) rfl, decodeOfEncode _ .cNop rfl,
    decodeOfEncode _ (.cMovi20 0x12345 2) rfl, decodeOfEncode _ (.mAdd 1 2 3) rfl, decodeOfEncode _ (.mMovi 0xFFFF 5) rfl,
    rfl⟩

end Sys2Proof.Machine
end

section
/-! SUPPORT. The results of the compact arithmetic, logic and shift instructions (spec 40, 41) as integers: the machine's words
computed with `+`, `*` and the shifts are the images of the sums, products and quotients that the statements name. -/

namespace Sys2Proof.Machine

/-! ### An instruction that does what is stated in other words -/

section
variable {i : Instr} {s : State} {n : CReg} {v w : Word} {b c : Bool}

theorem Runs.imp {next : Quad} {p : Parts} {ok ok' : State → Prop} (h : Runs i s next p ok) (himp : ∀ t, ok t → ok' t) :
    Runs i s next p ok' :=
  let ⟨t, he, hpc, hd, hev, hk, hok⟩ := h
  ⟨t, he, hpc, hd, hev, hk, himp t hok⟩

theorem putsR_of_eq (he : exec i s = s.putR n w) (hv : w = v) : PutsR i s n v := putsR_of (hv ▸ he)

theorem putsT_of_eq (he : exec i s = s.putT c) (hb : c = b) : PutsT i s b := putsT_of (hb ▸ he)

theorem putsRT_of_eq (he : exec i s = s.putRT n w c) (hv : w = v) (hb : c = b) : PutsRT i s n v b :=
  putsRT_of (hv ▸ hb ▸ he)

end

/-! ### Sums and differences (40 R201, R205 to R208, R235 to R239) -/

theorem ofInt_sub {w : Nat} (x y : Int) : BitVec.ofInt w (x - y) = BitVec.ofInt w x - BitVec.ofInt w y := by
  rw [Int.sub_eq_add_neg, BitVec.ofInt_add, BitVec.ofInt_neg, BitVec.sub_eq_add_neg]

theorem truth_eq_ofNat (w : Nat) (b : Bool) : truth w b = BitVec.ofNat w b.toNat := by cases b <;> rfl

/-- A shift by no places is left out. -/
theorem sx32_zero {k : Nat} (v : BitVec k) : sx32 v 0 = BitVec.ofInt 32 v.toInt := BitVec.shiftLeft_zero _

theorem add_eq_ofInt (a b : Word) : a + b = BitVec.ofInt 32 (a.toInt + b.toInt) := by
  rw [BitVec.ofInt_add, BitVec.ofInt_toInt, BitVec.ofInt_toInt]

theorem sub_eq_ofInt (a b : Word) : a - b = BitVec.ofInt 32 (a.toInt - b.toInt) := by
  rw [ofInt_sub, BitVec.ofInt_toInt, BitVec.ofInt_toInt]

theorem neg_eq_ofInt (b : Word) : 0 - b = BitVec.ofInt 32 (-b.toInt) := by
  rw [BitVec.ofInt_neg, BitVec.ofInt_toInt, zero_sub]

theorem add_imm_eq_ofInt {k : Nat} (a : Word) (imm : BitVec k) : a + sx32 imm 0 = BitVec.ofInt 32 (a.toInt + imm.toInt) := by
  rw [BitVec.ofInt_add, BitVec.ofInt_toInt, sx32_zero]

theorem add_truth_eq_ofNat (a b : Word) (c : Bool) :
    a + b + truth 32 c = BitVec.ofNat 32 (a.toNat + b.toNat + c.toNat) := by
  rw [BitVec.ofNat_add, truth_eq_ofNat, BitVec.add_def a b]

theorem sub_truth_eq_ofInt {a : Word} {v : Int} (ha : a = BitVec.ofInt 32 v) (c : Bool) :
    a - truth 32 c = BitVec.ofInt 32 (v - c.toNat) := by
  rw [ofInt_sub, truth_eq_ofNat, BitVec.ofInt_natCast, ha]

/-- Signed overflow of a sum is a sum out of range (40 R201). -/
theorem ovAdd_eq_decide (a b : Word) :
    ovAdd a b (a + b) = decide (a.toInt + b.toInt < -2 ^ 31 ∨ 2 ^ 31 ≤ a.toInt + b.toInt) := by
  have hov : ovAdd a b (a + b) = a.saddOverflow b := (BitVec.saddOverflow_eq a b).symm
  rw [hov, BitVec.saddOverflow, ← Bool.decide_or, decide_eq_decide]
  exact or_comm

/-- Signed overflow of a difference is a difference out of range (40 R201). -/
theorem ovSub_eq_decide (a b : Word) :
    ovSub a b (a - b) = decide (a.toInt - b.toInt < -2 ^ 31 ∨ 2 ^ 31 ≤ a.toInt - b.toInt) := by
  have hov : ovSub a b (a - b) = a.ssubOverflow b := by
    rw [BitVec.ssubOverflow_eq, ovSub]
    cases a.msb <;> cases b.msb <;> simp
  rw [hov, BitVec.ssubOverflow, ← Bool.decide_or, decide_eq_decide]
  exact or_comm

/-- From 0 everything but 0 borrows. -/
theorem borrow_zero (b : Word) (c : Bool) : borrow 0 b c = decide (b.toNat + c.toNat ≠ 0) := by
  rw [borrow, decide_eq_decide]
  exact Nat.pos_iff_ne_zero

theorem sub_one_beq_zero (a : Word) : (a - 1 == 0) = decide (a = 1) := by
  rw [beq_eq_decide, decide_eq_decide, sub_eq_zero]

/-- Settles O1: each result is the image of the integer sum or difference, and each T is its carry, borrow or overflow. -/
theorem compactAddAndSubtract : Obligations.CompactAddAndSubtract := by
  intro s m n imm
  refine ⟨?add, ?addImm, ?addc, ?addv, ?dt, ?neg, ?negc, ?sub, ?subc, ?subv⟩
  case add => exact putsR_of rfl
  case addImm => exact putsR_of_eq rfl (add_imm_eq_ofInt _ _)
  case addc => exact putsRT_of_eq rfl (add_truth_eq_ofNat _ _ _) rfl
  case addv => exact putsRT_of_eq rfl (add_eq_ofInt _ _) (ovAdd_eq_decide _ _)
  case dt => exact putsRT_of_eq rfl (sub_eq_ofInt _ _) (sub_one_beq_zero _)
  case neg => exact putsR_of_eq rfl (neg_eq_ofInt _)
  case negc => exact putsRT_of_eq rfl (sub_truth_eq_ofInt (neg_eq_ofInt _) _) (borrow_zero _ _)
  case sub => exact putsR_of_eq rfl (sub_eq_ofInt _ _)
  case subc => exact putsRT_of_eq rfl (sub_truth_eq_ofInt (sub_eq_ofInt _ _) _) rfl
  case subv => exact putsRT_of_eq rfl (sub_eq_ofInt _ _) (ovSub_eq_decide _ _)

/-! ### Extensions and moves (40 R225 to R228, 41 R305, R306, R349 to R352) -/

theorem signExtend_low_eq_ofInt (v : Word) {k : Nat} (hk : k ≤ 32) :
    (v.setWidth k).signExtend 32 = BitVec.ofInt 32 (v.extractLsb' 0 k).toInt := by
  rw [BitVec.setWidth_eq_extractLsb' hk, BitVec.signExtend]

theorem zeroExtend_low_eq_ofNat (v : Word) (k : Nat) : (v.setWidth k).setWidth 32 = BitVec.ofNat 32 (v.toNat % 2 ^ k) := by
  rw [← BitVec.ofNat_toNat, BitVec.toNat_setWidth]

/-- Settles O2: the extensions by value, the swaps and xtrct by the fields that are put together. -/
theorem compactExtendAndMove : Obligations.CompactExtendAndMove := by
  intro s m n imm
  refine ⟨?extsB, ?extsW, ?extuB, ?extuW, ?mov, ?movImm, ?movt, ⟨_, putsR_of rfl, ?swapB⟩, ⟨_, putsR_of rfl, ?swapW⟩,
    ⟨_, putsR_of rfl, ?xtrct⟩⟩
  case extsB => exact putsR_of_eq rfl (signExtend_low_eq_ofInt _ (by decide))
  case extsW => exact putsR_of_eq rfl (signExtend_low_eq_ofInt _ (by decide))
  case extuB => exact putsR_of_eq rfl (zeroExtend_low_eq_ofNat _ 8)
  case extuW => exact putsR_of_eq rfl (zeroExtend_low_eq_ofNat _ 16)
  case mov => exact putsR_of rfl
  case movImm => exact putsR_of_eq rfl (sx32_zero imm)
  case movt => exact putsR_of_eq rfl (truth_eq_ofNat 32 _)
  case swapB =>
    refine ⟨?_, ?_, BitVec.extractLsb'_append_eq_right⟩
    · rw [BitVec.append_assoc]
      exact BitVec.extractLsb'_append_eq_left
    · rw [BitVec.extractLsb'_append_eq_of_le (by decide)]
      exact BitVec.extractLsb'_append_eq_right
  case swapW => exact ⟨BitVec.extractLsb'_append_eq_left, BitVec.extractLsb'_append_eq_right⟩
  case xtrct => exact ⟨BitVec.extractLsb'_append_eq_left, BitVec.extractLsb'_append_eq_right⟩

/-! ### Results from an immediate, PC, R0 or a special register (40 R221, R232, 41 R307 to R309) -/

theorem mul_eq_ofInt (a b : Word) : a * b = BitVec.ofInt 32 (a.toInt * b.toInt) := by
  rw [BitVec.ofInt_mul, BitVec.ofInt_toInt, BitVec.ofInt_toInt]

/-- Within 32 bits the extension to 64 keeps the integer. -/
theorem sext64_ofInt {i : Int} (hlo : -2 ^ 31 ≤ i) (hhi : i < 2 ^ 31) : sext64 (BitVec.ofInt 32 i) = BitVec.ofInt 64 i := by
  rw [sext64, BitVec.signExtend, BitVec.toInt_ofInt_eq_self (by decide) hlo hhi]

theorem sx32_eight {k : Nat} (v : BitVec k) : sx32 v 8 = BitVec.ofInt 32 (v.toInt * 256) := by
  rw [sx32, BitVec.shiftLeft_eq_mul_twoPow, BitVec.ofInt_mul]; rfl

/-- A 4-byte instruction that writes one register (41 R307, R308). -/
theorem runs_setR_four {i : Instr} {s : State} {n : CReg} {v : Word} {x : Quad} (he : exec i s = (s.setR n v).retire 4)
    (hx : sext64 v = x) : Runs i s (s.pc + 4) { gr := [creg n] } fun t => t.g (creg n) = x :=
  runs_retire he rfl ((Keeps.refl _ s).setR _ (by simp)) ((State.g_setR s n v).trans hx)

theorem State.pcLong_add_eq_ofNat (s : State) (disp : BitVec 8) :
    s.pcLong + zx32 disp 2 = BitVec.ofNat 32 ((low32 s.pc).toNat / 4 * 4 + 4 + 4 * disp.toNat) := by
  rw [BitVec.ofNat_add, BitVec.ofNat_add, Nat.mul_comm 4 disp.toNat, ofNat_mul_four, State.pcLong, and_wordMask]; rfl

/-- Settles O3: 20 bits, shifted by 8 at most, stay within 32, so their extension to 64 is the integer itself. -/
theorem compactResultsFromElsewhere : Obligations.CompactResultsFromElsewhere := by
  intro s n imm disp
  have hlo : -2 ^ 19 ≤ imm.toInt := BitVec.le_toInt imm
  have hhi : imm.toInt < 2 ^ 19 := BitVec.toInt_lt
  refine ⟨fun h0 => ?divu, fun h0 => ?divuZero, ?mulr, ?movi20, ?movi20s, ?mova, putsR_of rfl, putsR_of rfl, putsR_of rfl,
    putsR_of rfl, putsR_of rfl, putsR_of rfl, putsR_of rfl⟩
  case divu => exact putsR_of_eq rfl ((if_neg h0).trans BitVec.udiv_def)
  case divuZero => exact putsR_of_eq rfl (if_pos h0)
  case mulr => exact putsR_of_eq rfl (mul_eq_ofInt _ _)
  case movi20 => exact runs_setR_four rfl (by rw [sx32_zero, sext64_ofInt (by omega) (by omega)])
  case movi20s => exact runs_setR_four rfl (by rw [sx32_eight, sext64_ofInt (by omega) (by omega)])
  case mova => exact putsR_of_eq rfl (s.pcLong_add_eq_ofNat disp)

/-! ### Logic and comparisons (40 R209 to R217, R240, R241, R243 to R245, R248, R249, R251, R252) -/

theorem getLsbD_zx32_zero {k : Nat} (hk : k ≤ 32) (v : BitVec k) (b : Nat) : (zx32 v 0).getLsbD b = v.getLsbD b := by
  rw [zx32, BitVec.shiftLeft_zero, BitVec.getLsbD_setWidth, Bool.and_eq_right_iff_imp]
  intro hb
  have hlt := BitVec.lt_of_getLsbD hb
  exact decide_eq_true (by omega)

theorem and_beq_zero_iff (a b : Word) : (a &&& b == 0) = true ↔ ∀ k, ¬(a.getLsbD k = true ∧ b.getLsbD k = true) := by
  rw [beq_iff_eq]
  constructor
  · intro h k hk
    have hbit := congrArg (·.getLsbD k) h
    simp [hk.1, hk.2] at hbit
  · intro h
    apply BitVec.eq_of_getLsbD_eq
    intro k _
    have hk := h k
    simpa using hk

theorem toInt_sx32_zero {k : Nat} (hk : k ≤ 32) (v : BitVec k) : (sx32 v 0).toInt = v.toInt := by
  rw [sx32, BitVec.shiftLeft_zero, BitVec.toInt_signExtend_of_le hk]

theorem beq_eq_decide_toNat (a b : Word) : (a == b) = decide (a.toNat = b.toNat) := by
  rw [beq_eq_decide, decide_eq_decide, BitVec.toNat_inj]

theorem beq_eq_decide_toInt (a b : Word) : (a == b) = decide (a.toInt = b.toInt) := by
  rw [beq_eq_decide, decide_eq_decide, BitVec.toInt_inj]

/-- A byte of the exclusive or is 0 where the two bytes are equal. -/
theorem extract_xor_beq_zero (a b : Word) (k : Nat) :
    ((a ^^^ b).extractLsb' k 8 == 0) = true ↔ a.extractLsb' k 8 = b.extractLsb' k 8 := by
  rw [BitVec.extractLsb'_xor, beq_iff_eq]
  exact BitVec.xor_eq_zero_iff

theorem anyByteEq_iff (a b : Word) :
    anyByteEq a b = true ↔ ∃ j, j < 4 ∧ a.extractLsb' (8 * j) 8 = b.extractLsb' (8 * j) 8 := by
  simp only [anyByteEq, Bool.or_eq_true, extract_xor_beq_zero]
  constructor
  · rintro (((h | h) | h) | h)
    · exact ⟨3, by decide, h⟩
    · exact ⟨2, by decide, h⟩
    · exact ⟨1, by decide, h⟩
    · exact ⟨0, by decide, h⟩
  · rintro ⟨j, hj, h⟩
    interval_cases j
    · exact .inr h
    · exact .inl (.inr h)
    · exact .inl (.inl (.inr h))
    · exact .inl (.inl (.inl h))

/-- Settles O4: the results bit by bit, and each comparison as the one of the integers. -/
theorem compactLogicAndCompare : Obligations.CompactLogicAndCompare := by
  intro s m n imm
  have himm := getLsbD_zx32_zero (by decide) imm
  refine ⟨⟨_, putsR_of rfl, ?and⟩, ⟨_, putsR_of rfl, ?andImm⟩, ⟨_, putsR_of rfl, ?not⟩, ⟨_, putsR_of rfl, ?or⟩,
    ⟨_, putsR_of rfl, ?orImm⟩, ⟨_, putsR_of rfl, ?xor⟩, ⟨_, putsR_of rfl, ?xorImm⟩, ⟨_, putsT_of rfl, ?tst⟩,
    ⟨_, putsT_of rfl, ?tstImm⟩, ?cmpEqImm, ?cmpEq, ?cmpHs, ?cmpGe, ?cmpHi, ?cmpGt, ?cmpPz, ?cmpPl,
    ⟨_, putsT_of rfl, ?cmpStr⟩, ?clrt, ?sett⟩
  case and => exact fun k => BitVec.getLsbD_and
  case andImm => exact fun k => by rw [BitVec.getLsbD_and, himm]
  case not => exact fun k hk => by rw [BitVec.getLsbD_not, decide_eq_true hk, Bool.true_and]
  case or => exact fun k => BitVec.getLsbD_or
  case orImm => exact fun k => by rw [BitVec.getLsbD_or, himm]
  case xor => exact fun k => BitVec.getLsbD_xor
  case xorImm => exact fun k => by rw [BitVec.getLsbD_xor, himm]
  case tst => exact and_beq_zero_iff _ _
  case tstImm => simpa only [himm] using and_beq_zero_iff (s.r 0) (zx32 imm 0)
  case cmpEqImm => exact putsT_of_eq rfl (by rw [beq_eq_decide_toInt, toInt_sx32_zero (by decide)])
  case cmpEq => exact putsT_of_eq rfl (beq_eq_decide_toNat _ _)
  case cmpHs | cmpGe | cmpHi | cmpGt | cmpPz | cmpPl | clrt | sett => exact putsT_of rfl
  case cmpStr => exact anyByteEq_iff _ _

/-! ### Shifts and rotates (40 R254 to R269) -/

theorem shl_eq_ofNat (a : Word) (k : Nat) : a <<< k = BitVec.ofNat 32 (a.toNat * 2 ^ k) :=
  congrArg (BitVec.ofNat 32) (Nat.shiftLeft_eq _ _)

theorem shl_one_eq_ofNat (a : Word) : a <<< 1 = BitVec.ofNat 32 (2 * a.toNat) := by
  rw [shl_eq_ofNat, Nat.pow_one, Nat.mul_comm]

theorem shr_eq_ofNat (a : Word) (k : Nat) : a >>> k = BitVec.ofNat 32 (a.toNat / 2 ^ k) := by
  rw [← Nat.shiftRight_eq_div_pow, ← BitVec.toNat_ushiftRight, BitVec.ofNat_toNat, BitVec.setWidth_eq]

theorem sar_eq_ofInt (a : Word) (k : Nat) : a.sshiftRight k = BitVec.ofInt 32 (a.toInt / 2 ^ k) :=
  congrArg (BitVec.ofInt 32) (by rw [Int.shiftRight_eq_div_pow, Nat.cast_pow]; rfl)

/-- The bit that enters at the low end of a word shifted left is added (40 R220, R254, R256). -/
theorem shl_one_or_truth (a : Word) (b : Bool) : (a <<< 1) ||| truth 32 b = BitVec.ofNat 32 (2 * a.toNat + b.toNat) := by
  have hlow : 2 * a.toNat + b.toNat = 2 * a.toNat ||| b.toNat := by
    have hor := Nat.shiftLeft_add_eq_or_of_lt (i := 1) b.toNat_lt a.toNat
    rwa [Nat.shiftLeft_eq, Nat.pow_one, Nat.mul_comm] at hor
  rw [hlow, BitVec.ofNat_or, ← shl_one_eq_ofNat, truth_eq_ofNat]

/-- The bit that enters at the high end of a word shifted right is added there (40 R255, R257). -/
theorem ofBool_append_high (a : Word) (b : Bool) :
    BitVec.ofBool b ++ a.extractLsb' 1 31 = BitVec.ofNat 32 (a.toNat / 2 + b.toNat * 2 ^ 31) := by
  have hhigh : (a.extractLsb' 1 31).toNat = a.toNat / 2 := by
    have := a.isLt
    rw [BitVec.extractLsb'_toNat, Nat.shiftRight_eq_div_pow]; omega
  have hb := b.toNat_le
  have := a.isLt
  apply BitVec.eq_of_toNat_eq
  rw [BitVec.toNat_append, BitVec.toNat_ofBool, ← Nat.shiftLeft_add_eq_or_of_lt (BitVec.isLt _), hhigh, Nat.shiftLeft_eq,
    BitVec.toNat_ofNat]
  omega

theorem toNat_getLsbD_zero {w : Nat} (a : BitVec w) : (a.getLsbD 0).toNat = a.toNat % 2 := by
  rw [BitVec.getLsbD, Nat.toNat_testBit, Nat.pow_zero, Nat.div_one]

theorem shiftCount_eq (v : Word) : shiftCount v = v.toNat % 32 := by
  rw [shiftCount, BitVec.extractLsb'_toNat, Nat.shiftRight_zero]

/-- A shift by all 32 places leaves the sign bits (40 R258). -/
theorem allSign_eq_ofInt (a : Word) : (if a.msb then 0xFFFFFFFF else 0) = BitVec.ofInt 32 (a.toInt / 2 ^ 32) := by
  have hlo : -2 ^ 31 ≤ a.toInt := a.le_toInt
  have hhi : a.toInt < 2 ^ 31 := BitVec.toInt_lt
  have hsign : a.msb = true ↔ a.toInt < 0 := by rw [BitVec.msb_eq_toInt, decide_eq_true_iff]
  by_cases hneg : a.toInt < 0
  · rw [if_pos (hsign.2 hneg), Int.ediv_eq_neg_one_of_neg_of_le hneg (by omega)]; rfl
  · rw [if_neg (mt hsign.1 hneg), Int.ediv_eq_zero_of_lt (by omega) (by omega)]; rfl

/-- A shift by all 32 places leaves nothing (40 R261). -/
theorem zero_eq_ofNat_div (a : Word) : 0 = BitVec.ofNat 32 (a.toNat / 2 ^ 32) := by
  rw [Nat.div_eq_of_lt a.isLt]; rfl

/-- Settles O5: a count of 0 with the sign set is a shift by all 32 places; every other shift is the one of the count. -/
theorem compactShifts : Obligations.CompactShifts := by
  intro s m n
  refine ⟨?rotl, ?rotr, ?rotcl, ?rotcr, ?shal, ?shar, ?shll, ?shlr, fun hm => ?positive, fun hm => ?negative, ?shll2, ?shll8,
    ?shll16, ?shlr2, ?shlr8, ?shlr16⟩
  case rotl | rotcl => exact putsRT_of_eq rfl (shl_one_or_truth _ _) rfl
  case rotr => exact putsRT_of_eq rfl ((ofBool_append_high _ _).trans (by rw [toNat_getLsbD_zero])) rfl
  case rotcr => exact putsRT_of_eq rfl (ofBool_append_high _ _) rfl
  case shal | shll => exact putsRT_of_eq rfl (shl_one_eq_ofNat _) rfl
  case shar => exact putsRT_of_eq rfl (sar_eq_ofInt _ 1) rfl
  case shlr => exact putsRT_of_eq rfl (shr_eq_ofNat _ 1) rfl
  case positive =>
    rw [← shiftCount_eq]
    exact ⟨putsR_of_eq rfl ((if_pos hm).trans (shl_eq_ofNat _ _)), putsR_of_eq rfl ((if_pos hm).trans (shl_eq_ofNat _ _))⟩
  case negative =>
    have hm' := ne_false_of_eq_true hm
    rw [← shiftCount_eq]
    by_cases h0 : shiftCount (s.r m) = 0
    · rw [h0]
      exact ⟨putsR_of_eq rfl ((if_neg hm').trans ((if_pos h0).trans (allSign_eq_ofInt _))),
        putsR_of_eq rfl ((if_neg hm').trans ((if_pos h0).trans (zero_eq_ofNat_div _)))⟩
    · exact ⟨putsR_of_eq rfl ((if_neg hm').trans ((if_neg h0).trans (sar_eq_ofInt _ _))),
        putsR_of_eq rfl ((if_neg hm').trans ((if_neg h0).trans (shr_eq_ofNat _ _)))⟩
  case shll2 | shll8 | shll16 => exact putsR_of_eq rfl (shl_eq_ofNat _ _)
  case shlr2 | shlr8 | shlr16 => exact putsR_of_eq rfl (shr_eq_ofNat _ _)

end Sys2Proof.Machine
end

section
/-! SUPPORT. The divide steps and the multiplies (40 R218 to R220, R222, R223, R229 to R231, R233, R234): the flags and the
accumulator read after they are written, and the divide step as a sum or a difference with its carry or borrow. -/

namespace Sys2Proof.Machine

/-! ### A flag read after another one is written (10 R36) -/

@[simp] theorem State.flagQ_setT (s : State) (b : Bool) : (s.setT b).flagQ = s.flagQ := getLsbD_setBit _ 0 8 b (by decide)
@[simp] theorem State.flagM_setT (s : State) (b : Bool) : (s.setT b).flagM = s.flagM := getLsbD_setBit _ 0 9 b (by decide)
@[simp] theorem State.flagM_setQ (s : State) (b : Bool) : (s.setQ b).flagM = s.flagM := getLsbD_setBit _ 8 9 b (by decide)
@[simp] theorem State.flagQ_setM (s : State) (b : Bool) : (s.setM b).flagQ = s.flagQ := getLsbD_setBit _ 9 8 b (by decide)

/-- The three flags of the divide steps, written in turn (40 R218, R219). -/
theorem runs_setQMT {i : Instr} {s : State} {q m b : Bool} (he : exec i s = (((s.setQ q).setM m).setT b).retire 2) :
    Runs i s (s.pc + 2) { sr := 0x301 } fun t => t.flagQ = q ∧ t.flagM = m ∧ t.flagT = b :=
  runs_retire he rfl ((((Keeps.refl _ s).setQ _ (by decide)).setM _ (by decide)).setT _ (by decide))
    ⟨(State.flagQ_setT _ _).trans ((State.flagQ_setM _ _).trans (State.flagQ_setQ _ _)),
      (State.flagM_setT _ _).trans (State.flagM_setM _ _), State.flagT_setT _ _⟩

/-! ### The divide step (40 R220) -/

/-- The second table of 40 R220 is an exclusive or; the old Q has no part in it. -/
theorem div1Q_eq_xor : ∀ q m qs c : Bool, div1Q q m qs c = (qs ^^ m ^^ c) := by decide

theorem div1Shifted_eq_ofNat (a : Word) (b : Bool) : div1Shifted a b = BitVec.ofNat 32 (2 * a.toNat + b.toNat) :=
  shl_one_or_truth a b

section
variable {q m : Bool}

theorem div1Result_of_eq (h : q = m) (sh d : Word) : div1Result q m sh d = sh - d := by
  subst h; cases q <;> rfl

theorem div1Result_of_ne (h : q ≠ m) (sh d : Word) : div1Result q m sh d = sh + d := by
  revert h; cases q <;> cases m <;> simp [div1Result]

theorem div1Carry_of_eq (h : q = m) (sh r : Word) : div1Carry q m sh r = BitVec.ult sh r := by
  subst h; cases q <;> rfl

theorem div1Carry_of_ne (h : q ≠ m) (sh r : Word) : div1Carry q m sh r = BitVec.ult r sh := by
  revert h; cases q <;> cases m <;> simp [div1Carry]

end

theorem sub_eq_ofInt_toNat (a b : Word) : a - b = BitVec.ofInt 32 ((a.toNat : Int) - b.toNat) := by
  rw [ofInt_sub, BitVec.ofInt_natCast, BitVec.ofInt_natCast, BitVec.ofNat_toNat, BitVec.ofNat_toNat, BitVec.setWidth_eq,
    BitVec.setWidth_eq]

theorem ult_sub_eq_decide (sh d : Word) : BitVec.ult sh (sh - d) = decide (sh.toNat < d.toNat) := by
  rw [BitVec.ult, decide_eq_decide]; bv_omega

theorem ult_add_eq_decide (sh d : Word) : BitVec.ult (sh + d) sh = decide (2 ^ 32 ≤ sh.toNat + d.toNat) := by
  rw [BitVec.ult, decide_eq_decide]; bv_omega

/-- div1 leaves the remainder `r` and the Q that its tables give; T says whether that Q equals M (40 R220). -/
theorem runs_div1 (s : State) (m n : CReg) {sh r : Word} {q : Bool} (hsh : sh = div1Shifted (s.r n) s.flagT)
    (hr : r = div1Result s.flagQ s.flagM sh (s.r m))
    (hq : q = div1Q s.flagQ s.flagM (s.r n).msb (div1Carry s.flagQ s.flagM sh r)) :
    Runs (.cDiv1 m n) s (s.pc + 2) { gr := [creg n], sr := 0x101 } fun t =>
      t.g (creg n) = sext64 r ∧ t.r n = r ∧ t.flagM = s.flagM ∧ t.flagQ = q ∧ t.flagT = (q == s.flagM) := by
  subst hsh hr hq
  exact runs_retire rfl rfl ((((Keeps.refl _ s).setR _ (by simp)).setQ _ (by simp)).setT _ (by simp))
    ⟨State.g_setR _ _ _, (State.r_setR s n n _).trans (if_pos rfl), (State.flagM_setT _ _).trans (State.flagM_setQ _ _),
      (State.flagQ_setT _ _).trans (State.flagQ_setQ _ _), State.flagT_setT _ _⟩

/-! ### The accumulator (10 R38) -/

@[simp] theorem State.getMach_setMacl (s : State) (v : Word) : (s.setMacl v).getMach = s.getMach := by
  cases h : s.params.storage <;> simp [State.getMach, State.setMacl, h, State.g_setG]

@[simp] theorem State.getMacl_setMach (s : State) (v : Word) : (s.setMach v).getMacl = s.getMacl := by
  cases h : s.params.storage <;> simp [State.getMacl, State.setMach, h, State.g_setG]

theorem State.getMach_setMac (s : State) (v : Quad) : (s.setMac v).getMach = high32 v := by
  rw [State.setMac, State.getMach_setMacl, State.getMach_setMach]

theorem State.getMacl_setMac (s : State) (v : Quad) : (s.setMac v).getMacl = low32 v := State.getMacl_setMacl _ _

theorem State.getMac_setMac (s : State) (v : Quad) : (s.setMac v).getMac = v := by
  rw [State.getMac, State.getMach_setMac, State.getMacl_setMac, low32, BitVec.setWidth_eq_extractLsb' (by decide)]
  exact append_halves 32 32 v

theorem mem_macParts {c : CompactStorage} (h : c = .aliased) : 17 ∈ (macParts c).gr := by subst h; decide

theorem macParts_separate {c : CompactStorage} (h : c = .separate) : (macParts c).mach = true ∧ (macParts c).macl = true := by
  subst h; decide

theorem Keeps.setMac_macParts (s : State) (v : Quad) : Keeps (macParts s.params.storage) s (s.setMac v) :=
  (Keeps.refl _ s).setMac v mem_macParts macParts_separate

/-- A multiply that writes the whole accumulator (40 R222, R223). -/
theorem runs_setMac {i : Instr} {s : State} {v : Quad} (he : exec i s = (s.setMac v).retire 2) :
    Runs i s (s.pc + 2) (macParts s.params.storage) fun t => t.getMac = v :=
  runs_retire he (s.setMac_pc v) (.setMac_macParts s v) (s.getMac_setMac v)

/-- A multiply that writes MACL alone (40 R231, R233, R234). -/
theorem runs_setMacl {i : Instr} {s : State} {v w : Word} (he : exec i s = (s.setMacl w).retire 2) (hv : w = v) :
    Runs i s (s.pc + 2) (maclParts s.params.storage) fun t => t.getMacl = v ∧ t.getMach = s.getMach := by
  subst hv
  refine runs_retire he (s.setMacl_pc w) ((Keeps.refl _ s).setMacl w (fun h => ?_) fun h => ?_)
    ⟨s.getMacl_setMacl w, s.getMach_setMacl w⟩
  · rw [h]; decide
  · rw [h]; decide

/-- Settles O6: the flags and the accumulator as written, and div1 by whether Q equals M. -/
theorem compactDivideAndMultiply : Obligations.CompactDivideAndMultiply := by
  intro s m n
  refine ⟨runs_setQMT rfl, runs_setQMT rfl, fun sh hsh => ?div1, runs_setMac rfl, runs_setMac rfl, ?mulL, ?mulsW, ?muluW,
    ?clrmac⟩
  case div1 =>
    have hsh : sh = (div1Shifted (s.r n) s.flagT).toNat := by rw [hsh, div1Shifted_eq_ofNat, BitVec.toNat_ofNat]
    refine (runs_div1 s m n rfl rfl rfl).imp fun t ⟨hg, hr, hm, hq, ht⟩ =>
      ⟨by rw [hg, hr], hm, by rw [ht, hq], fun heq => ?_, fun hne => ?_⟩
    · rw [hr, hq, div1Q_eq_xor, div1Carry_of_eq heq, div1Result_of_eq heq, ult_sub_eq_decide, hsh]
      exact ⟨sub_eq_ofInt_toNat _ _, rfl⟩
    · rw [hr, hq, div1Q_eq_xor, div1Carry_of_ne hne, div1Result_of_ne hne, ult_add_eq_decide, hsh]
      exact ⟨BitVec.add_def _ _, rfl⟩
  case mulL => exact runs_setMacl rfl (mul_eq_ofInt _ _)
  case mulsW =>
    exact runs_setMacl rfl (by
      rw [signExtend_low_eq_ofInt _ (by decide), signExtend_low_eq_ofInt _ (by decide), BitVec.ofInt_mul])
  case muluW => exact runs_setMacl rfl (by rw [zeroExtend_low_eq_ofNat, zeroExtend_low_eq_ofNat, BitVec.ofNat_mul])
  case clrmac =>
    exact runs_retire rfl (s.setMac_pc 0) (.setMac_macParts s 0) ⟨s.getMach_setMac 0, s.getMacl_setMac 0⟩

/-! ### Multiply and accumulate (40 R229, R230) -/

theorem State.g_setR_ne (s : State) {n k : CReg} (v : Word) (h : k ≠ n) : (s.setR n v).g (creg k) = s.g (creg k) := by
  rw [State.setR, State.g_setG, if_neg fun he => h ((creg_inj k n).1 he.1)]

theorem State.g_setMacl (s : State) {k : MReg} (v : Word) (h : k ≠ 17) : (s.setMacl v).g k = s.g k := by
  unfold State.setMacl
  split
  · rw [State.g_setG, if_neg fun he => h he.1]
  · rfl

theorem State.g_setMach (s : State) {k : MReg} (v : Word) (h : k ≠ 17) : (s.setMach v).g k = s.g k := by
  unfold State.setMach
  split
  · rw [State.g_setG, if_neg fun he => h he.1]
  · rfl

theorem State.g_setMac (s : State) {k : MReg} (v : Quad) (h : k ≠ 17) : (s.setMac v).g k = s.g k := by
  rw [State.setMac, State.g_setMacl _ _ h, State.g_setMach _ _ h]

/-- Both bases advance by the size; one that is both advances twice. -/
theorem macAdvance_g (s : State) (m n : CReg) {size twice : Word} (h2 : size + size = twice) :
    (macAdvance s m n size).g (creg m) = sext64 (if m = n then s.r m + twice else s.r m + size) ∧
      (macAdvance s m n size).g (creg n) = sext64 (if m = n then s.r n + twice else s.r n + size) := by
  subst h2
  rw [macAdvance, State.g_setR, macSecond]
  by_cases h : m = n
  · subst h
    simp only [if_true, State.g_setR, BitVec.add_assoc, and_self]
  · rw [State.g_setR_ne _ _ (Ne.symm h), State.g_setR, if_neg h, if_neg h, if_neg h]
    exact ⟨rfl, rfl⟩

/-- What mac.l and mac.w may change: their bases and the accumulator. -/
def macFrame (s : State) (m n : CReg) (draws : Bool) : Parts :=
  { macParts s.params.storage with gr := creg n :: creg m :: (macParts s.params.storage).gr, draws := draws }

theorem Keeps.macAdvance (s : State) (m n : CReg) (size : Word) (draws : Bool) :
    Keeps (macFrame s m n draws) s (macAdvance s m n size) :=
  ((Keeps.refl _ s).setR _ (by simp [macFrame])).setR _ (by simp [macFrame])

theorem mem_macFrame {s : State} {m n : CReg} {draws : Bool} (h : s.params.storage = .aliased) :
    17 ∈ (macFrame s m n draws).gr := List.mem_cons_of_mem _ (List.mem_cons_of_mem _ (mem_macParts h))

/-- A saturated sum, extended, is the clamped integer (00 R16). -/
theorem satS48_signExtend (v : Int) :
    (satS 48 v).signExtend 64 = BitVec.ofInt 64 (max (-2 ^ 47) (min (2 ^ 47 - 1) v)) := by
  rw [BitVec.signExtend, satS, BitVec.toInt_ofInt_eq_self (by decide) (by omega) (by omega)]

/-- A multiply and accumulate that writes the whole accumulator. -/
theorem runs_macAdvance_setMac {i : Instr} {s : State} {m n : CReg} {size twice : Word} {v : Quad} (h2 : size + size = twice)
    (draws : Bool) (he : exec i s = ((macAdvance s m n size).setMac v).retire 2) :
    Runs i s (s.pc + 2) (macFrame s m n draws) fun t =>
      t.g (creg m) = sext64 (if m = n then s.r m + twice else s.r m + size) ∧
        t.g (creg n) = sext64 (if m = n then s.r n + twice else s.r n + size) ∧ t.getMac = v := by
  obtain ⟨hm, hn⟩ := macAdvance_g s m n h2
  refine runs_retire he (State.setMac_pc _ v) ((Keeps.macAdvance s m n size draws).setMac v mem_macFrame macParts_separate)
    ⟨?_, ?_, State.getMac_setMac _ v⟩
  · exact (State.g_setMac _ v (creg_ne m 17 (by decide))).trans hm
  · exact (State.g_setMac _ v (creg_ne n 17 (by decide))).trans hn

/-- mac.w with S = 1: MACL is saturated, and MACH is drawn (log 6). -/
theorem runs_macAdvance_draw {i : Instr} {s : State} {m n : CReg} {size twice l h : Word} {d : Nat} (h2 : size + size = twice)
    (he : exec i s = State.retire { ((macAdvance s m n size).setMacl l).setMach h with draws := d } 2) :
    Runs i s (s.pc + 2) (macFrame s m n true) fun t =>
      t.g (creg m) = sext64 (if m = n then s.r m + twice else s.r m + size) ∧
        t.g (creg n) = sext64 (if m = n then s.r n + twice else s.r n + size) ∧ t.getMacl = l := by
  obtain ⟨hm, hn⟩ := macAdvance_g s m n h2
  have hparams : ((macAdvance s m n size).setMacl l).params = s.params := State.setMacl_params _ l
  have hkeeps : Keeps (macFrame s m n true) s (((macAdvance s m n size).setMacl l).setMach h) :=
    ((Keeps.macAdvance s m n size true).setMacl l mem_macFrame fun hs => (macParts_separate hs).2).setMach h
      (fun ha => mem_macFrame (hparams ▸ ha)) fun hs => (macParts_separate (hparams ▸ hs)).1
  have hreg {k : CReg} : (((macAdvance s m n size).setMacl l).setMach h).g (creg k) = (macAdvance s m n size).g (creg k) :=
    (State.g_setMach _ h (creg_ne k 17 (by decide))).trans (State.g_setMacl _ l (creg_ne k 17 (by decide)))
  refine runs_retire he ((State.setMach_pc _ h).trans (State.setMacl_pc _ l)) { hkeeps with draws := nofun } ⟨?_, ?_, ?_⟩
  · exact hreg.trans hm
  · exact hreg.trans hn
  · exact (State.getMacl_setMach _ h).trans (State.getMacl_setMacl _ l)

/-- Settles O7: both accesses pass, the bases advance, and the sum, saturated where S is set, goes to the accumulator. -/
theorem compactMultiplyAccumulate : Obligations.CompactMultiplyAccumulate := by
  intro s m n a b
  refine ⟨?macL, ?macW⟩
  case macL =>
    rintro rfl rfl ha hb
    have he : exec (.cMacL m n) s = _ := (State.checkRead_ok ha).trans (State.checkRead_ok hb)
    refine (runs_macAdvance_setMac rfl _ he).imp fun t ⟨hm, hn, hmac⟩ => ⟨hm, hn, _, rfl, hmac.trans ?_⟩
    cases s.flagS with
    | false => rfl
    | true => exact satS48_signExtend _
  case macW =>
    rintro rfl rfl ha hb
    have he : exec (.cMacW m n) s = _ := (State.checkRead_ok ha).trans (State.checkRead_ok hb)
    cases hS : s.flagS with
    | false =>
      rw [hS] at he
      exact (runs_macAdvance_setMac rfl _ he).imp fun t ⟨hm, hn, hmac⟩ => ⟨hm, hn, _, rfl, fun _ => hmac, nofun⟩
    | true =>
      rw [hS] at he
      exact (runs_macAdvance_draw rfl he).imp fun t ⟨hm, hn, hmacl⟩ => ⟨hm, hn, _, rfl, nofun, fun _ => hmacl⟩

end Sys2Proof.Machine
end

section
/-! SUPPORT. The other compact loads and stores (40 R242, R246, R247, R250, R253, 41 R310, R311, R315 to R317, R324, R328, R329,
R333 to R335, R342, R346): post-increments, runs of one-byte reads, and the value read back after a store. -/

namespace Sys2Proof.Machine

/-! ### Loads -/

/-- Extending a field twice keeps its integer. -/
theorem sext64_signExtend {k : Nat} (hk : k ≤ 32) (v : BitVec k) : sext64 (v.signExtend 32) = BitVec.ofInt 64 v.toInt := by
  rw [sext64, BitVec.signExtend, BitVec.toInt_signExtend_of_le hk]

/-- Cited by name where the kernel would otherwise compare the two states field by field, PC with PC. -/
theorem State.g_finish (u : State) (pc : Quad) (k : MReg) : (u.finish pc).g k = u.g k := rfl

/-- A post-increment: with base and destination the same register the loaded value wins (41 R302). -/
theorem runs_putInc {i : Instr} {s : State} {m n : CReg} {size v : Word} {x : Quad} (he : exec i s = s.putInc m n size v)
    (hx : sext64 v = x) :
    Runs i s (s.pc + 2) { gr := [creg m, creg n] } fun t =>
      t.g (creg n) = x ∧ (n ≠ m → t.g (creg m) = sext64 (s.r m + size)) := by
  subst hx
  unfold State.putInc at he
  by_cases h : m = n
  · rw [if_pos h] at he
    exact runs_retire he rfl ((Keeps.refl _ s).setR _ (by simp)) ⟨State.g_setR _ _ _, fun hne => absurd h.symm hne⟩
  · rw [if_neg h] at he
    exact runs_retire he rfl (((Keeps.refl _ s).setR _ (by simp)).setR _ (by simp))
      ⟨(State.g_finish _ _ _).trans (State.g_setR _ _ _), fun _ =>
        (State.g_finish _ _ _).trans ((State.g_setR_ne _ _ h).trans (State.g_setR _ _ _))⟩

theorem State.checkReads_ok {s : State} {l : List Quad} {k : Result} (h : ∀ x ∈ l, s.readFault x 1 = none) :
    s.checkReads l k = k := by
  induction l with
  | nil => rfl
  | cons x l ih =>
    rw [List.forall_mem_cons] at h
    exact (State.checkRead_ok h.1).trans (ih h.2)

/-- movua.l reads its four bytes one by one, at any alignment (41 R328, 20 R86). -/
theorem State.checkReads_movua_ok {s : State} {a : Quad} {k : Result} (h : ∀ x ∈ bytesFrom a 4, canRead s.params x = true) :
    s.checkReads (movuaAddrs a) k = k :=
  State.checkReads_ok fun x hx => accessFault_one_eq_none.2 (h x (movuaAddrs_eq a ▸ hx))

/-- Settles O10: where the access is allowed each load puts the value read, sign-extended. -/
theorem compactLoadsOther : Obligations.CompactLoadsOther := by
  intro s m n d8 d12 a
  simp only [State.pcLong_address, ofNat_mul_two, ofNat_mul_four]
  refine ⟨?movWPc, ?movLPc, ?tstB, ?disp12, ?base⟩
  case movWPc => rintro rfl ha; exact putsR_of (State.checkRead_ok ha)
  case movLPc => rintro rfl ha; exact putsR_of (State.checkRead_ok ha)
  case tstB => rintro rfl ha; exact putsT_of_eq (State.checkRead_ok ha) (beq_eq_decide _ _)
  case disp12 =>
    rintro hd rfl ha
    exact runs_setR_four ((if_neg (not_msb_disp12 hd)).trans (State.checkRead_ok ha)) rfl
  case base =>
    rintro rfl
    refine ⟨fun ha => ?_, fun ha => ?_, fun ha => ?_, fun hbytes => ⟨?_, ?_⟩⟩
    · exact runs_putInc (State.checkRead_ok ha) (sext64_signExtend (by decide) _)
    · exact runs_putInc (State.checkRead_ok ha) (sext64_signExtend (by decide) _)
    · exact runs_putInc (State.checkRead_ok ha) rfl
    · exact putsR_of (State.checkReads_movua_ok hbytes)
    · have he : exec (.cMovuaLInc m) s = s.putInc m 0 4 (s.read32 (sext64 (s.r m))) := State.checkReads_movua_ok hbytes
      exact (runs_putInc he rfl).imp fun t ⟨h0, hm⟩ => ⟨h0, fun hne => hm hne.symm⟩

/-! ### Stores -/

theorem State.read8_write8 (s : State) (a : Quad) (v : Byte) : (s.write8 a v).read8 a = v :=
  (Memory.read8_write8 s.mem a a v).trans (if_pos rfl)

theorem State.read16_write16 (s : State) (a : Quad) (v : Half) : (s.write16 a v).read16 a = v :=
  Memory.read16_write16 s.mem s.endian a v

theorem State.read32_write32 (s : State) (a : Quad) (v : Word) : (s.write32 a v).read32 a = v :=
  Memory.read32_write32 s.mem s.endian a v

/-- A read-modify-write of one byte (20 R89, R95). -/
theorem runs_modify8 {i : Instr} {s : State} {a : Quad} {f : Byte → Byte} (he : exec i s = s.modify8 a f)
    (hr : s.readFault a 1 = none) (hw : s.writeFault a 1 = none) :
    Runs i s (s.pc + 2) { mem := bytesFrom a 1 } fun t => t.read8 a = f (s.read8 a) :=
  runs_retire (he.trans ((State.checkRead_ok hr).trans (State.checkWrite_ok hw))) rfl
    ((Keeps.refl _ s).write8 _ fun _ hx => hx) (State.read8_write8 _ _ _)

/-- Settles O12: where the accesses are allowed each store leaves the value at its address, read before any register moves. -/
theorem compactStoresOther : Obligations.CompactStoresOther := by
  intro s m n d8 d12 a
  simp only [ofNat_mul_four, ← BitVec.setWidth_eq_extractLsb' (by decide : 8 ≤ 32),
    ← BitVec.setWidth_eq_extractLsb' (by decide : 16 ≤ 32)]
  refine ⟨?movBDec, ?movWDec, ?movLDec, ?disp12, ?movca, ?tas, ?logic⟩
  case movBDec =>
    rintro rfl ha
    exact runs_retire (State.checkWrite_ok ha) rfl (((Keeps.refl _ s).write8 _ fun _ hx => hx).setR _ (by simp))
      ⟨State.read8_write8 _ _ _, State.g_setR _ _ _⟩
  case movWDec =>
    rintro rfl ha
    exact runs_retire (State.checkWrite_ok ha) rfl (((Keeps.refl _ s).write16 _ fun _ hx => hx).setR _ (by simp))
      ⟨State.read16_write16 _ _ _, State.g_setR _ _ _⟩
  case movLDec =>
    rintro rfl ha
    exact runs_retire (State.checkWrite_ok ha) rfl (((Keeps.refl _ s).write32 _ fun _ hx => hx).setR _ (by simp))
      ⟨State.read32_write32 _ _ _, State.g_setR _ _ _⟩
  case disp12 =>
    rintro hd rfl ha
    exact runs_retire ((if_neg (not_msb_disp12 hd)).trans (State.checkWrite_ok ha)) rfl
      ((Keeps.refl _ s).write32 _ fun _ hx => hx) (State.read32_write32 _ _ _)
  case movca =>
    rintro rfl ha
    exact runs_retire (State.checkWrite_ok ha) rfl ((Keeps.refl _ s).write32 _ fun _ hx => hx) (State.read32_write32 _ _ _)
  case tas =>
    rintro rfl hr hw
    exact runs_retire ((State.checkRead_ok hr).trans (State.checkWrite_ok hw)) rfl
      (((Keeps.refl _ s).setT _ (by simp)).write8 _ fun _ hx => hx)
      ⟨(State.flagT_setT _ _).trans (beq_eq_decide _ _), State.read8_write8 _ _ _⟩
  case logic =>
    rintro rfl hr hw
    exact ⟨runs_modify8 (f := (· &&& d8)) rfl hr hw, runs_modify8 (f := (· ||| d8)) rfl hr hw,
      runs_modify8 (f := (· ^^^ d8)) rfl hr hw⟩

end Sys2Proof.Machine
end

section
/-! SUPPORT. The compact loads and stores without a register side effect (41 R312 to R314, R318 to R323, R325 to R327, R330 to
R332, R336 to R341, R343 to R345), once for each size, whatever the form of the address. -/

namespace Sys2Proof.Machine

section
variable {i : Instr} {s : State} {a : Quad}

/-! ### Loads: bytes and words are sign-extended (41 R301) -/

theorem putsR_load8 {n : CReg} (he : exec i s = s.load8 a fun v => s.putR n (v.signExtend 32)) (ha : s.readFault a 1 = none) :
    PutsR i s n (BitVec.ofInt 32 (s.read8 a).toInt) :=
  putsR_of (he.trans (State.checkRead_ok ha))

theorem putsR_load16 {n : CReg} (he : exec i s = s.load16 a fun v => s.putR n (v.signExtend 32)) (ha : s.readFault a 2 = none) :
    PutsR i s n (BitVec.ofInt 32 (s.read16 a).toInt) :=
  putsR_of (he.trans (State.checkRead_ok ha))

theorem putsR_load32 {n : CReg} (he : exec i s = s.load32 a fun v => s.putR n v) (ha : s.readFault a 4 = none) :
    PutsR i s n (s.read32 a) :=
  putsR_of (he.trans (State.checkRead_ok ha))

/-! ### Stores: the low part of the register (41 R330, R331) -/

theorem low8_eq_extractLsb (v : Word) : v.setWidth 8 = v.extractLsb' 0 8 := BitVec.setWidth_eq_extractLsb' (by decide)

theorem low16_eq_extractLsb (v : Word) : v.setWidth 16 = v.extractLsb' 0 16 := BitVec.setWidth_eq_extractLsb' (by decide)

theorem runs_store8 {v : Word} (he : exec i s = s.store8 a (v.setWidth 8)) (ha : s.writeFault a 1 = none) :
    Runs i s (s.pc + 2) { mem := bytesFrom a 1 } fun t => t.read8 a = v.extractLsb' 0 8 :=
  runs_retire (he.trans (State.checkWrite_ok ha)) rfl ((Keeps.refl _ s).write8 _ fun _ hx => hx)
    ((State.read8_write8 s a _).trans (low8_eq_extractLsb v))

theorem runs_store16 {v : Word} (he : exec i s = s.store16 a (v.setWidth 16)) (ha : s.writeFault a 2 = none) :
    Runs i s (s.pc + 2) { mem := bytesFrom a 2 } fun t => t.read16 a = v.extractLsb' 0 16 :=
  runs_retire (he.trans (State.checkWrite_ok ha)) rfl ((Keeps.refl _ s).write16 _ fun _ hx => hx)
    ((State.read16_write16 s a _).trans (low16_eq_extractLsb v))

theorem runs_store32 {v : Word} (he : exec i s = s.store32 a v) (ha : s.writeFault a 4 = none) :
    Runs i s (s.pc + 2) { mem := bytesFrom a 4 } fun t => t.read32 a = v :=
  runs_retire (he.trans (State.checkWrite_ok ha)) rfl ((Keeps.refl _ s).write32 _ fun _ hx => hx)
    (State.read32_write32 s a v)

end

/-- Settles O9: each form is the load of its size at the model's address, which is the one the rule gives. -/
theorem compactLoads : Obligations.CompactLoads := by
  intro s m n d4 d8 a
  simp only [State.sext64_index, ofNat_eq_zx32, ofNat_mul_two, ofNat_mul_four]
  refine ⟨?reg, ?idx, ?dispB, ?dispW, ?dispL, ?gbrB, ?gbrW, ?gbrL⟩
  case reg => rintro rfl; exact ⟨putsR_load8 rfl, putsR_load16 rfl, putsR_load32 rfl⟩
  case idx => rintro rfl; exact ⟨putsR_load8 rfl, putsR_load16 rfl, putsR_load32 rfl⟩
  case dispB => rintro rfl; exact putsR_load8 rfl
  case dispW => rintro rfl; exact putsR_load16 rfl
  case dispL => rintro rfl; exact putsR_load32 rfl
  case gbrB => rintro rfl; exact putsR_load8 rfl
  case gbrW => rintro rfl; exact putsR_load16 rfl
  case gbrL => rintro rfl; exact putsR_load32 rfl

/-- Settles O11: each form is the store of its size at the model's address, which is the one the rule gives. -/
theorem compactStores : Obligations.CompactStores := by
  intro s m n d4 d8 a
  simp only [State.sext64_index, ofNat_eq_zx32, ofNat_mul_two, ofNat_mul_four]
  refine ⟨?reg, ?idx, ?dispB, ?dispW, ?dispL, ?gbrB, ?gbrW, ?gbrL⟩
  case reg => rintro rfl; exact ⟨runs_store8 rfl, runs_store16 rfl, runs_store32 rfl⟩
  case idx => rintro rfl; exact ⟨runs_store8 rfl, runs_store16 rfl, runs_store32 rfl⟩
  case dispB => rintro rfl; exact runs_store8 rfl
  case dispW => rintro rfl; exact runs_store16 rfl
  case dispL => rintro rfl; exact runs_store32 rfl
  case gbrB => rintro rfl; exact runs_store8 rfl
  case gbrW => rintro rfl; exact runs_store16 rfl
  case gbrL => rintro rfl; exact runs_store32 rfl

end Sys2Proof.Machine
end

section
/-! SUPPORT. The refused instructions (41 R304, R347, R348, 46 R670, R671, 47 R701, R702): a refusal reports `InvalidInstruction`
and sets the mark (60 R856), and the settings and fields under which it is given. -/

namespace Sys2Proof.Machine

theorem isRefused_of {i : Instr} {s : State} {why : RefuseReason} (he : exec i s = s.refuse why) : IsRefused i s why := he

/-! ### movco.l and movli.l under each `MOVCO_MODE` (41 R347, R348) -/

section
variable {s : State} (k : CReg)

theorem execCMovcoL_refuse (h : s.params.movco = .refuse) : execCMovcoL k s = s.refuse .movco := by
  rw [execCMovcoL, h]

theorem execCMovcoL_placeholder (h : s.params.movco = .placeholder) : execCMovcoL k s = s.retire 2 := by
  rw [execCMovcoL, h]

theorem execCMovliL_refuse (h : s.params.movco = .refuse) : execCMovliL k s = s.refuse .movli := by
  rw [execCMovliL, h]

theorem execCMovliL_placeholder (h : s.params.movco = .placeholder) : execCMovliL k s = s.retire 2 := by
  rw [execCMovliL, h]

end

/-- A disp12 field with its top bit set is refused (41 R304). -/
theorem msb_disp12 {l : BitVec 12} (hl : l.getLsbD 11 = true) : l.msb = true := l.msb_eq_getLsbD_last.trans hl

/-- Settles O15: each meaning is the refusal, at once or by the setting or the field on which it turns. -/
theorem refusedInstructions : Obligations.RefusedInstructions := by
  intro s k m d imm r n q disp
  refine ⟨fun hmode => ⟨?movco, ?movli⟩, fun hmode => ⟨?movcoAdvances, ?movliAdvances⟩, ?rte, ?sleep, ?getcfg, ?putcfg,
    fun hdisp => ?disp12⟩
  case movco => exact isRefused_of (execCMovcoL_refuse k hmode)
  case movli => exact isRefused_of (execCMovliL_refuse k hmode)
  case movcoAdvances => exact onlyAdvances_of (execCMovcoL_placeholder k hmode)
  case movliAdvances => exact onlyAdvances_of (execCMovliL_placeholder k hmode)
  case rte => exact isRefused_of rfl
  case sleep => exact isRefused_of rfl
  case getcfg => exact isRefused_of rfl
  case putcfg => exact isRefused_of rfl
  case disp12 =>
    have htop : disp.msb = true := msb_disp12 hdisp
    exact ⟨isRefused_of (if_pos htop), isRefused_of (if_pos htop), isRefused_of (if_pos htop), isRefused_of (if_pos htop)⟩

end Sys2Proof.Machine
end

section
/-! SUPPORT. The compact special registers and flags (42 R387, R389, R392 to R402, R405, R406, R410 to R412, 43 R466 to R469, R472,
R473): where each is kept under either storage, what a write of one leaves alone, and the pops and pushes of any of them. -/

namespace Sys2Proof.Machine

/-! ### Where each special register is kept (10 R38, R51) -/

section
variable {c : CompactStorage}

theorem mem_gbrParts (h : c = .aliased) : 16 ∈ (gbrParts c).gr := by subst h; decide
theorem mem_machParts (h : c = .aliased) : 17 ∈ (machParts c).gr := by subst h; decide
theorem mem_maclParts (h : c = .aliased) : 17 ∈ (maclParts c).gr := by subst h; decide
theorem mem_prParts (h : c = .aliased) : 18 ∈ (prParts c).gr := by subst h; decide
theorem mem_fpulParts (h : c = .aliased) : 32 ∈ (fpulParts c).fr := by subst h; decide

theorem gbrParts_separate (h : c = .separate) : (gbrParts c).gbr = true := by subst h; rfl
theorem machParts_separate (h : c = .separate) : (machParts c).mach = true := by subst h; rfl
theorem maclParts_separate (h : c = .separate) : (maclParts c).macl = true := by subst h; rfl
theorem prParts_separate (h : c = .separate) : (prParts c).pr = true := by subst h; rfl
theorem fpulParts_separate (h : c = .separate) : (fpulParts c).fpul = true := by subst h; rfl

end

/-! ### A register read after another one is written -/

theorem State.g_setGbr (s : State) {k : MReg} (v : Word) (h : k ≠ 16) : (s.setGbr v).g k = s.g k := by
  unfold State.setGbr
  split
  · rw [State.g_setG, if_neg fun he => h he.1]
  · rfl

theorem State.g_setPr (s : State) {k : MReg} (v : Word) (h : k ≠ 18) : (s.setPr v).g k = s.g k := by
  unfold State.setPr
  split
  · rw [State.g_setG, if_neg fun he => h he.1]
  · rfl

theorem State.g_setFpul (s : State) (k : MReg) (v : Word) : (s.setFpul v).g k = s.g k := by
  rw [State.g, State.g, State.setFpul_gr]

/-- GBR under aliased storage is the sign-extended value in GR[16] (10 R38). -/
theorem State.g_setGbr_aliased {s : State} (v : Word) (h : s.params.storage = .aliased) : (s.setGbr v).g 16 = sext64 v := by
  simp [State.setGbr, h, State.g_setG]

/-- The compact registers end below GR[16], where the special ones begin. -/
theorem State.g_setR_special (s : State) (n : CReg) {k : MReg} (v : Word) (h : 16 ≤ k.toNat) : (s.setR n v).g k = s.g k := by
  rw [State.setR, State.g_setG, if_neg fun he => creg_ne n k h he.1.symm]

theorem State.getMach_setR (s : State) (n : CReg) (v : Word) : (s.setR n v).getMach = s.getMach := by
  rw [State.getMach, State.getMach, State.g_setR_special s n v (by decide)]; rfl

theorem State.getMacl_setR (s : State) (n : CReg) (v : Word) : (s.setR n v).getMacl = s.getMacl := by
  rw [State.getMacl, State.getMacl, State.g_setR_special s n v (by decide)]; rfl

/-- 10 R49: FPSCR has 22 bits. -/
theorem State.toNat_fpscr_setFpscr (s : State) (v : Word) : (s.setFpscr v).fpscr.toNat = v.toNat % 2 ^ 22 := by
  rw [State.setFpscr, BitVec.toNat_and]
  exact Nat.and_two_pow_sub_one_eq_mod _ 22

/-! ### Loads with post-increment and stores with pre-decrement -/

/-- A special register loaded through `@Rm+` (42 R395): `u` is the state after the increment and the write. -/
theorem runs_popWith {i : Instr} {s u : State} {m : CReg} {f : State → Word → State} {p : Parts} {ok : State → Prop}
    (he : exec i s = s.popWith m f) (ha : s.readFault (sext64 (s.r m)) 4 = none)
    (hu : u = f (s.setR m (s.r m + 4)) (s.read32 (sext64 (s.r m)))) (hpc : u.pc = s.pc) (hk : Keeps p s u)
    (hbase : u.g (creg m) = (s.setR m (s.r m + 4)).g (creg m))
    (hok : (u.finish (s.pc + 2)).g (creg m) = sext64 (s.r m + 4) → ok (u.finish (s.pc + 2))) : Runs i s (s.pc + 2) p ok := by
  subst hu
  exact runs_retire (he.trans (State.checkRead_ok ha)) hpc hk
    (hok ((State.g_finish _ _ _).trans (hbase.trans (State.g_setR _ _ _))))

/-- A long pushed through `@-Rn` (42 R405). -/
theorem runs_push {i : Instr} {s : State} {n : CReg} {v : Word} (he : exec i s = s.push n v)
    (ha : s.writeFault (sext64 (s.r n - 4)) 4 = none) :
    Runs i s (s.pc + 2) { gr := [creg n], mem := bytesFrom (sext64 (s.r n - 4)) 4 } fun t =>
      t.read32 (sext64 (s.r n - 4)) = v ∧ t.g (creg n) = sext64 (s.r n - 4) :=
  runs_retire (he.trans (State.checkWrite_ok ha)) rfl (((Keeps.refl _ s).write32 _ fun _ hx => hx).setR _ (by simp))
    ⟨State.read32_write32 _ _ _, State.g_setR _ _ _⟩

/-- Settles O8: each special register as it is read back, and the base of a pop or a push, which no special register overlaps. -/
theorem compactSpecialWritesAndTransfers : Obligations.CompactSpecialWritesAndTransfers := by
  refine ⟨fun s m => ?writes, fun s m a hm ha => ?pops, fun s n a hn ha => ?pushes⟩
  case writes =>
    refine ⟨?clrs, ?sets, ?sr, ?gbr, ?vbr, ?mach, ?macl, ?pr, ?fpscr, ?fpul⟩
    case clrs => exact runs_retire rfl rfl ((Keeps.refl _ s).setS _ (by decide)) (s.flagS_setS _)
    case sets => exact runs_retire rfl rfl ((Keeps.refl _ s).setS _ (by decide)) (s.flagS_setS _)
    case sr =>
      have hsr : Keeps { sr := 0xFFFFFFFF } s { s with sr := s.r m } := (Keeps.refl _ s).setC_zero (s.g (creg m)) rfl
      exact runs_retire rfl rfl hsr ⟨rfl, rfl, rfl, rfl, rfl⟩
    case gbr =>
      exact runs_retire rfl (s.setGbr_pc _) ((Keeps.refl _ s).setGbr _ mem_gbrParts gbrParts_separate)
        ⟨s.getGbr_setGbr _, State.g_setGbr_aliased _⟩
    case vbr => exact runs_retire rfl rfl ((Keeps.refl _ s).setVbr _ rfl) rfl
    case mach =>
      exact runs_retire rfl (s.setMach_pc _) ((Keeps.refl _ s).setMach _ mem_machParts machParts_separate)
        ⟨s.getMach_setMach _, s.getMacl_setMach _⟩
    case macl => exact runs_setMacl rfl rfl
    case pr =>
      exact runs_retire rfl (s.setPr_pc _) ((Keeps.refl _ s).setPr _ mem_prParts prParts_separate) (s.getPr_setPr _)
    case fpscr => exact runs_retire rfl rfl ((Keeps.refl _ s).setFpscr _ rfl) (s.toNat_fpscr_setFpscr _)
    case fpul =>
      exact runs_retire rfl (s.setFpul_pc _) ((Keeps.refl _ s).setFpul _ mem_fpulParts fpulParts_separate)
        (s.getFpul_setFpul _)
  case pops =>
    subst hm
    have hinc {p : Parts} (h : creg m ∈ p.gr) : Keeps p s (s.setR m (s.r m + 4)) := (Keeps.refl _ s).setR _ h
    refine ⟨?gbr, ?vbr, ?mach, ?macl, ?pr, ?fpscr, ?fpul⟩
    case gbr =>
      exact runs_popWith rfl ha rfl (State.setGbr_pc _ _)
        ((hinc (by simp)).setGbr _ (fun h => List.mem_cons_of_mem _ (mem_gbrParts h)) gbrParts_separate)
        (State.g_setGbr _ _ (creg_ne m 16 (by decide))) fun hg => ⟨State.getGbr_setGbr _ _, hg⟩
    case vbr =>
      exact runs_popWith rfl ha rfl rfl ((hinc (by simp)).setVbr _ rfl) rfl fun hg => ⟨rfl, hg⟩
    case mach =>
      exact runs_popWith rfl ha rfl (State.setMach_pc _ _)
        ((hinc (by simp)).setMach _ (fun h => List.mem_cons_of_mem _ (mem_machParts h)) machParts_separate)
        (State.g_setMach _ _ (creg_ne m 17 (by decide))) fun hg =>
        ⟨State.getMach_setMach _ _, (State.getMacl_setMach _ _).trans (s.getMacl_setR m _), hg⟩
    case macl =>
      exact runs_popWith rfl ha rfl (State.setMacl_pc _ _)
        ((hinc (by simp)).setMacl _ (fun h => List.mem_cons_of_mem _ (mem_maclParts h)) maclParts_separate)
        (State.g_setMacl _ _ (creg_ne m 17 (by decide))) fun hg =>
        ⟨State.getMacl_setMacl _ _, (State.getMach_setMacl _ _).trans (s.getMach_setR m _), hg⟩
    case pr =>
      exact runs_popWith rfl ha rfl (State.setPr_pc _ _)
        ((hinc (by simp)).setPr _ (fun h => List.mem_cons_of_mem _ (mem_prParts h)) prParts_separate)
        (State.g_setPr _ _ (creg_ne m 18 (by decide))) fun hg => ⟨State.getPr_setPr _ _, hg⟩
    case fpscr =>
      exact runs_popWith rfl ha rfl rfl ((hinc (by simp)).setFpscr _ rfl) rfl fun hg =>
        ⟨State.toNat_fpscr_setFpscr (s.setR m (s.r m + 4)) (s.read32 (sext64 (s.r m))), hg⟩
    case fpul =>
      exact runs_popWith rfl ha rfl (State.setFpul_pc _ _) ((hinc (by simp)).setFpul _ mem_fpulParts fpulParts_separate)
        (State.g_setFpul _ _ _) fun hg => ⟨State.getFpul_setFpul _ _, hg⟩
  case pushes =>
    subst hn
    exact ⟨runs_push rfl ha, runs_push rfl ha, runs_push rfl ha, runs_push rfl ha, runs_push rfl ha, runs_push rfl ha,
      runs_push rfl ha⟩

end Sys2Proof.Machine
end

section
/-! SUPPORT. The compact branches (42 R370, R371, R375 to R385), the traps (60 R853), and the hints and barriers: targets as
integers, and how a jump, a delayed branch, a call and a trap end. -/

namespace Sys2Proof.Machine

/-! ### Branch targets, computed in 32 bits (42 R370) -/

theorem sx32_one {k : Nat} (v : BitVec k) : sx32 v 1 = BitVec.ofInt 32 (v.toInt * 2) := by
  rw [sx32, BitVec.shiftLeft_eq_mul_twoPow, BitVec.ofInt_mul]; rfl

section
variable (s : State)

theorem State.returnAddr_eq_ofNat : s.returnAddr = BitVec.ofNat 32 ((low32 s.pc).toNat + 4) := BitVec.add_def _ 4#32

theorem State.branchRel_eq_ofInt {k : Nat} (disp : BitVec k) :
    s.branchRel disp = sext64 (BitVec.ofInt 32 ((low32 s.pc).toNat + 4 + disp.toInt * 2)) := by
  rw [BitVec.ofInt_add, ← sx32_one, show ((low32 s.pc).toNat + 4 : Int) = ((low32 s.pc).toNat + 4 : Nat) from rfl,
    BitVec.ofInt_natCast, ← s.returnAddr_eq_ofNat]
  rfl

theorem State.branchReg_eq_ofNat (v : Word) :
    s.branchReg v = sext64 (BitVec.ofNat 32 ((low32 s.pc).toNat + 4 + v.toNat)) := by
  rw [BitVec.ofNat_add, BitVec.ofNat_toNat, BitVec.setWidth_eq, ← s.returnAddr_eq_ofNat]
  rfl

end

/-! ### How a branch and a trap end -/

section
variable {i : Instr} {s : State} {p : Parts} {v : Quad} {tagged : Bool}

theorem Keeps.record {t : State} (h : Keeps p s t) (b : Pending) (hp : p.pending = true) :
    Keeps p s { t with pending := some b } :=
  { h with pending := fun he => by rw [hp] at he; cases he }

/-- A taken branch without a slot (42 R375, R377). -/
theorem runs_jump (he : exec i s = (s.setPC v).complete) : Runs i s v {} fun _ => True :=
  runs_of (u := s) he (Keeps.refl _ s) trivial

/-- The two outcomes of a conditional branch. -/
theorem Runs.ite {c : Prop} [Decidable c] {w : Quad} {ok : State → Prop} (hv : c → Runs i s v p ok)
    (hw : ¬c → Runs i s w p ok) : Runs i s (if c then v else w) p ok := by
  split
  · exact hv ‹_›
  · exact hw ‹_›

/-- A delayed branch goes on to its slot at PC + 2 (42 R371). -/
theorem runs_delayed (he : exec i s = s.delayedBranch v tagged) :
    Runs i s (s.pc + 2) { pending := true } fun t => t.pending = some ⟨v, tagged⟩ :=
  runs_retire he rfl ((Keeps.refl _ s).record _ rfl) rfl

/-- A call also leaves the address after the slot in PR (42 R381, R382, R384). -/
theorem runs_call (he : exec i s = (s.setPr s.returnAddr).delayedBranch v tagged) :
    Runs i s (s.pc + 2) { prParts s.params.storage with pending := true } fun t =>
      t.pending = some ⟨v, tagged⟩ ∧ t.getPr = s.returnAddr :=
  have hpr : Keeps { prParts s.params.storage with pending := true } s (s.setPr s.returnAddr) :=
    (Keeps.refl _ s).setPr _ mem_prParts prParts_separate
  runs_retire he (s.setPr_pc _) (hpr.record _ rfl) ⟨rfl, s.getPr_setPr _⟩

/-- A trap changes PC and the report alone (60 R853). -/
theorem trap_frame {code : TrapCode} {size : Quad} (he : exec i s = s.trap code size) :
    ∃ t, exec i s = .next t ∧ t.pc = s.pc + size ∧ t.dstate = .trapped ∧ t.event = .explicitTrap code t.taggedPC ∧
      Keeps {} s t :=
  ⟨_, he, rfl, rfl, rfl, (Keeps.refl _ s).end _ _ _⟩

end

/-- Settles O13: the targets in the model's own terms, then each branch as a jump, a delayed branch or a call. -/
theorem compactBranches : Obligations.CompactBranches := by
  rintro s m d8 d12 t8 t12 trel treg link ht8 ht12 htrel rfl hlink
  rw [← s.branchRel_eq_ofInt] at ht8 ht12
  rw [← s.branchReg_eq_ofNat] at htrel
  rw [← s.returnAddr_eq_ofNat] at hlink
  subst ht8 ht12 htrel hlink
  -- The statement tests that T is clear, the model that it is set.
  simp only [← Bool.not_eq_true, ite_not]
  refine ⟨?bf, ?bt, ?bfS, ?btS, ?bra, ?braf, ?bsr, ?bsrf, ?jmp, ?jsr, ?rts⟩
  case bf => exact .ite (fun hT => onlyAdvances_of (if_pos hT)) fun hT => runs_jump (if_neg hT)
  case bt => exact .ite (fun hT => runs_jump (if_pos hT)) fun hT => onlyAdvances_of (if_neg hT)
  case bfS => exact runs_delayed rfl
  case btS => exact runs_delayed rfl
  case bra => exact runs_delayed rfl
  case braf => exact runs_delayed rfl
  case bsr => exact runs_call rfl
  case bsrf => exact runs_call rfl
  case jmp => exact runs_delayed rfl
  case jsr => exact runs_call rfl
  case rts => exact runs_delayed rfl

/-- Settles O14: the four traps report their codes; the meaning of every hint and barrier is the advance of PC. -/
theorem trapsHintsAndBarriers : Obligations.TrapsHintsAndBarriers := by
  intro s imm m k u
  refine ⟨?traps, ?compact, ?media⟩
  case traps =>
    rintro i code size (⟨rfl, rfl, rfl⟩ | ⟨rfl, rfl, rfl⟩ | ⟨rfl, rfl, rfl⟩ | ⟨rfl, rfl, rfl⟩)
    · rw [BitVec.ofNat_toNat]
      exact trap_frame rfl
    · exact trap_frame rfl
    · exact trap_frame rfl
    · exact trap_frame rfl
  case compact =>
    simp only [List.forall_mem_cons]
    refine ⟨?_, ?_, ?_, ?_, ?_, List.forall_mem_nil _⟩
    all_goals exact onlyAdvances_of rfl
  case media =>
    simp only [List.forall_mem_cons]
    refine ⟨?_, ?_, ?_, ?_, ?_, ?_, ?_, ?_, ?_, List.forall_mem_nil _⟩
    all_goals exact onlyAdvances_of rfl

end Sys2Proof.Machine
end

section
/-! SUPPORT. The compact floating-point arithmetic and comparisons (43 R435 to R444): a check that passes or fails, and the shapes
`fpUnary`, `fpBinary` and `fpCompare` under each value of FPSCR.PR. -/

namespace Sys2Proof.Machine

/-! ### The checks of 43 R431 -/

section
variable {s : State} {k : Result}

theorem State.require_ok {ok : Bool} (h : ok = true) : s.require ok k = k := if_pos h

theorem State.require_failed {ok : Bool} (h : ok = false) : s.require ok k = s.invalid := if_neg (ne_true_of_eq_false h)

/-- What is single precision only passes where FPSCR.PR is clear. -/
theorem State.require_single (hpr : s.fpPR = false) : s.require (!s.fpPR) k = k :=
  State.require_ok (congrArg Bool.not hpr)

end

theorem evenC_of_even {n : CReg} (hn : n.toNat % 2 = 0) : evenC n = true := by revert n; decide

theorem evenC_of_odd {n : CReg} (hn : n.toNat % 2 = 1) : evenC n = false := by revert n; decide

/-! ### Arithmetic and comparisons under each FPSCR.PR -/

section
variable {i : Instr} {s : State} {m n : CReg} {f32 : Word → Word} {f64 : Quad → Quad} {g32 : Word → Word → Word}
  {g64 : Quad → Quad → Quad} {c32 : Word → Word → Bool} {c64 : Quad → Quad → Bool}

theorem fpUnary_double (hpr : s.fpPR = true) :
    fpUnary s n f32 f64 = s.require (evenC n) ((s.setCd n (f64 (s.cd n))).retire 2) := if_pos hpr

theorem fpBinary_double (hpr : s.fpPR = true) :
    fpBinary s m n g32 g64 = s.require (evenC n && evenC m) ((s.setCd n (g64 (s.cd n) (s.cd m))).retire 2) := if_pos hpr

theorem fpCompare_double (hpr : s.fpPR = true) :
    fpCompare s m n c32 c64 = s.require (evenC n && evenC m) (s.putT (c64 (s.cd n) (s.cd m))) := if_pos hpr

theorem putsF_unary (he : exec i s = fpUnary s n f32 f64) (hpr : s.fpPR = false) :
    PutsF i s 2 (s.bank n) (f32 (s.cf n)) :=
  putsF_of (he.trans (if_neg (ne_true_of_eq_false hpr)))

theorem putsF_binary (he : exec i s = fpBinary s m n g32 g64) (hpr : s.fpPR = false) :
    PutsF i s 2 (s.bank n) (g32 (s.cf n) (s.cf m)) :=
  putsF_of (he.trans (if_neg (ne_true_of_eq_false hpr)))

theorem putsT_compare_single (he : exec i s = fpCompare s m n c32 c64) (hpr : s.fpPR = false) :
    PutsT i s (c32 (s.cf n) (s.cf m)) :=
  putsT_of (he.trans (if_neg (ne_true_of_eq_false hpr)))

theorem putsD_unary (he : exec i s = fpUnary s n f32 f64) (hpr : s.fpPR = true) (hn : n.toNat % 2 = 0) :
    PutsD i s 2 (s.bank n) (f64 (s.cd n)) :=
  putsD_of (he.trans ((fpUnary_double hpr).trans (State.require_ok (evenC_of_even hn))))

theorem evenC_both (hn : n.toNat % 2 = 0) (hm : m.toNat % 2 = 0) : (evenC n && evenC m) = true :=
  Bool.and_eq_true_iff.2 ⟨evenC_of_even hn, evenC_of_even hm⟩

theorem putsD_binary (he : exec i s = fpBinary s m n g32 g64) (hpr : s.fpPR = true) (hn : n.toNat % 2 = 0)
    (hm : m.toNat % 2 = 0) : PutsD i s 2 (s.bank n) (g64 (s.cd n) (s.cd m)) :=
  putsD_of (he.trans ((fpBinary_double hpr).trans (State.require_ok (evenC_both hn hm))))

theorem putsT_compare_double (he : exec i s = fpCompare s m n c32 c64) (hpr : s.fpPR = true) (hn : n.toNat % 2 = 0)
    (hm : m.toNat % 2 = 0) : PutsT i s (c64 (s.cd n) (s.cd m)) :=
  putsT_of (he.trans ((fpCompare_double hpr).trans (State.require_ok (evenC_both hn hm))))

end

/-- Settles O17: each form is one of the three shapes, in the precision that FPSCR.PR selects. -/
theorem compactFpArithmetic : Obligations.CompactFpArithmetic := by
  intro s m n
  refine ⟨fun hpr => ?single, fun hpr hn => ?double⟩
  case single =>
    refine ⟨?abs, ?neg, ?add, ?sub, ?mul, ?div, ?sqrt, ?mac, ?eq, ?gt⟩
    case abs => exact putsF_unary rfl hpr
    case neg => exact putsF_unary rfl hpr
    case add => exact putsF_binary rfl hpr
    case sub => exact putsF_binary rfl hpr
    case mul => exact putsF_binary rfl hpr
    case div => exact putsF_binary rfl hpr
    case sqrt => exact putsF_unary rfl hpr
    case mac => exact putsF_of (State.require_single hpr)
    case eq => exact putsT_compare_single rfl hpr
    case gt => exact putsT_compare_single rfl hpr
  case double =>
    refine ⟨?abs, ?neg, ?sqrt, fun hm => ⟨?add, ?sub, ?mul, ?div, ?eq, ?gt⟩⟩
    case abs => exact putsD_unary rfl hpr hn
    case neg => exact putsD_unary rfl hpr hn
    case sqrt => exact putsD_unary rfl hpr hn
    case add => exact putsD_binary rfl hpr hn hm
    case sub => exact putsD_binary rfl hpr hn hm
    case mul => exact putsD_binary rfl hpr hn hm
    case div => exact putsD_binary rfl hpr hn hm
    case eq => exact putsT_compare_double rfl hpr hn hm
    case gt => exact putsT_compare_double rfl hpr hn hm

end Sys2Proof.Machine
end

section
/-! SUPPORT. The compact FP constants, FPUL transfers, conversions and mode switches (43 R445 to R452, R455, R456): a write of
FPUL under either storage, and the one bit of FPSCR that a switch turns. -/

namespace Sys2Proof.Machine

/-- An instruction that writes FPUL, wherever it is kept (10 R51). -/
theorem runs_setFpul {i : Instr} {s : State} {v : Word} (he : exec i s = (s.setFpul v).retire 2) :
    Runs i s (s.pc + 2) (fpulParts s.params.storage) fun t => t.getFpul = v :=
  runs_retire he (s.setFpul_pc v) ((Keeps.refl _ s).setFpul v mem_fpulParts fpulParts_separate) (s.getFpul_setFpul v)

/-! ### The mode switches (43 R455, R456) -/

theorem getLsbD_xor_twoPow (v : Word) {j : Nat} (hj : j < 32) (k : Nat) :
    (v ^^^ BitVec.twoPow 32 j).getLsbD k = if k = j then !v.getLsbD k else v.getLsbD k := by
  rw [BitVec.getLsbD_xor, BitVec.getLsbD_twoPow, decide_eq_true hj, Bool.true_and]
  by_cases h : k = j
  · rw [if_pos h, decide_eq_true h.symm, Bool.xor_true]
  · rw [if_neg h, decide_eq_false (Ne.symm h), Bool.xor_false]

/-- A switch turns its own bit of FPSCR and leaves the others. -/
theorem runs_toggle {i : Instr} {s : State} {j : Nat} {mask : Word} (hj : j < 32) (hmask : mask = BitVec.twoPow 32 j)
    (he : exec i s = s.require (!s.fpPR) (State.retire { s with fpscr := s.fpscr ^^^ mask } 2)) (hpr : s.fpPR = false) :
    Runs i s (s.pc + 2) { fpscr := true } fun t =>
      t.fpscr.getLsbD j = !s.fpscr.getLsbD j ∧ ∀ k, k ≠ j → t.fpscr.getLsbD k = s.fpscr.getLsbD k := by
  subst hmask
  have hkeeps : Keeps { fpscr := true } s { s with fpscr := s.fpscr ^^^ BitVec.twoPow 32 j } :=
    { Keeps.refl _ s with fpscr := nofun }
  exact runs_retire (he.trans (State.require_single hpr)) rfl hkeeps
    ⟨(getLsbD_xor_twoPow _ hj j).trans (if_pos rfl), fun k hk => (getLsbD_xor_twoPow _ hj k).trans (if_neg hk)⟩

/-- Settles O18: each form writes one register, a pair or FPUL, or turns its bit of FPSCR, where its check passes. -/
theorem compactFpTransfers : Obligations.CompactFpTransfers := by
  intro s n q
  refine ⟨putsF_of rfl, runs_setFpul rfl, fun hpr => ?single, fun hpr => ⟨fun hn => ?even, ?cnvsd, ?cnvds⟩⟩
  case single =>
    have hpr' : ¬s.fpPR = true := ne_true_of_eq_false hpr
    refine ⟨?fldi0, ?fldi1, ?float, ?ftrc, ?frchg, ?fschg⟩
    case fldi0 => exact putsF_of (State.require_single hpr)
    case fldi1 => exact putsF_of (State.require_single hpr)
    case float => exact putsF_of (if_neg hpr')
    case ftrc => exact runs_setFpul (if_neg hpr')
    case frchg => exact runs_toggle (by decide) rfl rfl hpr
    case fschg => exact runs_toggle (by decide) rfl rfl hpr
  case even =>
    have heven : evenC n = true := evenC_of_even hn
    exact ⟨putsD_of ((if_pos hpr).trans (State.require_ok heven)), runs_setFpul ((if_pos hpr).trans (State.require_ok heven))⟩
  case cnvsd => exact putsD_of (State.require_ok hpr)
  case cnvds => exact runs_setFpul (State.require_ok hpr)

end Sys2Proof.Machine
end

section
/-! SUPPORT. The compact FP vectors, the FMOV view and the FP transfers with memory (43 R453, R454, R457 to R465): the numbers of
the vector and matrix views, pairs that pass their checks, and a pair read back. -/

namespace Sys2Proof.Machine

/-! ### Vectors and the matrix (10 R50, 43 R453, R454) -/

theorem State.bank_fvField_add (s : State) (q k : BitVec 2) : s.bank (fvField q 0) + k.setWidth 6 = s.bank (q ++ k) := by
  unfold State.bank
  generalize s.fpFR = b
  revert b q k; decide

theorem State.otherBank_add (s : State) (j : Fin 16) : s.otherBank 0 + BitVec.ofNat 6 j = s.otherBank (BitVec.ofNat 4 j) := by
  unfold State.otherBank
  generalize s.fpFR = b
  revert b j; decide

theorem State.fv_eq_four (s : State) (q : BitVec 2) :
    s.fv (s.bank (fvField q 0)) = four (s.cf (q ++ 0#2)) (s.cf (q ++ 1#2)) (s.cf (q ++ 2#2)) (s.cf (q ++ 3#2)) := by
  have h1 : s.bank (fvField q 0) + 1 = s.bank (q ++ 1#2) := s.bank_fvField_add q 1
  have h2 : s.bank (fvField q 0) + 2 = s.bank (q ++ 2#2) := s.bank_fvField_add q 2
  have h3 : s.bank (fvField q 0) + 3 = s.bank (q ++ 3#2) := s.bank_fvField_add q 3
  simp only [State.fv, h1, h2, h3]
  rfl

theorem State.mtrx_eq_ofFn (s : State) :
    s.mtrx (s.otherBank 0) = Vector.ofFn fun j => s.f (s.otherBank (BitVec.ofNat 4 j.val)) := by
  simp only [State.mtrx, State.otherBank_add]

theorem State.f_setFv (s : State) (i : MReg) (x : Nat → Word) (k : BitVec 2) :
    (s.setFv i x).f (i + k.setWidth 6) = x k.toNat := by
  obtain rfl | rfl | rfl | rfl : k = 0 ∨ k = 1 ∨ k = 2 ∨ k = 3 := by revert k; decide
  all_goals simp [State.setFv, State.f_setF]

@[simp] theorem State.setFv_pc (s : State) (i : MReg) (x : Nat → Word) : (s.setFv i x).pc = s.pc := by simp [State.setFv]

@[simp] theorem State.setFv_fpscr (s : State) (i : MReg) (x : Nat → Word) : (s.setFv i x).fpscr = s.fpscr := by
  simp [State.setFv]

/-- The bank is chosen by FPSCR alone. -/
theorem State.bank_setFv (s : State) (i : MReg) (x : Nat → Word) (n : CReg) : (s.setFv i x).bank n = s.bank n := by
  rw [State.bank, State.fpFR, State.setFv_fpscr]; rfl

theorem State.cf_finish (u : State) (pc : Quad) (n : CReg) : (u.finish pc).cf n = u.cf n := rfl

theorem Keeps.setFv {p : Parts} {s t : State} (h : Keeps p s t) {i : MReg} (x : Nat → Word)
    (hi : ∀ k : BitVec 2, i + k.setWidth 6 ∈ p.fr) : Keeps p s (t.setFv i x) :=
  (((h.setF _ (by simpa using hi 0)).setF _ (hi 1)).setF _ (hi 2)).setF _ (hi 3)

/-! ### Pairs (20 R87, 43 R432) -/

section
variable {s : State} {a : Quad}

theorem State.pairFault_eq_none {fault : Quad → Nat → Option Quad} :
    s.pairFault fault a = none ↔
      (s.params.misaligned = .fault → a.toNat % 8 = 0) ∧ fault a 4 = none ∧ fault (a + 4) 4 = none := by
  unfold State.pairFault
  split
  next h => simp [h]
  next h =>
    have hal : s.params.misaligned = .fault → a.toNat % 8 = 0 := fun hp => by_contra fun hne => h ⟨hp, hne⟩
    rw [Option.or_eq_none_iff]
    exact ⟨fun hf => ⟨hal, hf⟩, And.right⟩

theorem State.pairAligned_ok {k : Result} (h : s.params.misaligned = .fault → a.toNat % 8 = 0) : s.pairAligned a k = k := by
  unfold State.pairAligned
  split
  next hp => exact if_pos (h hp)
  next => rfl

theorem State.loadPair_ok {k : Quad → Result} (h : s.pairFault s.readFault a = none) :
    s.loadPair a k = k (s.read32 a ++ s.read32 (a + 4)) :=
  let ⟨hal, hlow, hhigh⟩ := State.pairFault_eq_none.1 h
  (State.pairAligned_ok hal).trans ((State.checkRead_ok hlow).trans (State.checkRead_ok hhigh))

theorem State.checkPair_ok {k : Result} (h : s.pairFault s.writeFault a = none) : s.checkPair a k = k :=
  let ⟨hal, hlow, hhigh⟩ := State.pairFault_eq_none.1 h
  (State.pairAligned_ok hal).trans ((State.checkWrite_ok hlow).trans (State.checkWrite_ok hhigh))

theorem State.f_setD (s : State) (d : MReg) (v w : Word) :
    (s.setD d (v ++ w)).f d = v ∧ (s.setD d (v ++ w)).f (d + 1) = w := by
  simp only [State.setD, State.f_setF, if_neg (succ_ne d), if_true, high32_append, low32_append, and_self]

/-- The high half of a pair is at the lower address. -/
theorem State.read32_writePair (s : State) (a : Quad) (v w : Word) :
    (s.writePair a (v ++ w)).read32 a = v ∧ (s.writePair a (v ++ w)).read32 (a + 4) = w := by
  simp only [State.writePair, high32_append, low32_append]
  exact ⟨(Memory.read32_write32_ne _ _ _ _).trans (State.read32_write32 _ _ _), State.read32_write32 _ _ _⟩

theorem mem_bytesFrom_pair {x : Quad} (h : x ∈ bytesFrom a 4 ∨ x ∈ bytesFrom (a + 4) 4) : x ∈ bytesFrom a 8 := by
  simp only [mem_bytesFrom] at h ⊢
  rcases h with ⟨j, hj, rfl⟩ | ⟨j, hj, rfl⟩
  · exact ⟨j, by omega, rfl⟩
  · exact ⟨4 + j, by omega, by rw [BitVec.ofNat_add, ← BitVec.add_assoc]; rfl⟩

theorem Keeps.writePair {p : Parts} {t : State} (h : Keeps p s t) (v : Quad) (ha : ∀ x ∈ bytesFrom a 8, x ∈ p.mem) :
    Keeps p s (t.writePair a v) :=
  (h.write32 _ fun x hx => ha x (mem_bytesFrom_pair (.inl hx))).write32 _ fun x hx => ha x (mem_bytesFrom_pair (.inr hx))

/-- A store of two registers whose checks pass, with no other effect. -/
theorem runs_storePair {i : Instr} {size : Quad} {v w : Word}
    (he : exec i s = s.checkPair a ((s.writePair a (v ++ w)).retire size)) (ha : s.pairFault s.writeFault a = none) :
    Runs i s (s.pc + size) { mem := bytesFrom a 8 } fun t => t.read32 a = v ∧ t.read32 (a + 4) = w :=
  runs_retire (he.trans (State.checkPair_ok ha)) rfl ((Keeps.refl _ s).writePair _ fun _ hx => hx) (s.read32_writePair a v w)

end

/-! ### The FMOV view under each FPSCR.SZ (43 R457 to R465) -/

section
variable {i : Instr} {s : State} {a : Quad} {n : CReg} {f : State → State}

theorem fmovLoadAt_single (hsz : s.fpSZ = false) (ha : s.readFault a 4 = none) :
    fmovLoadAt s a n f = (f (s.setCf n (s.read32 a))).retire 2 :=
  (if_neg (ne_true_of_eq_false hsz)).trans (State.checkRead_ok ha)

theorem fmovLoadAt_pair (hsz : s.fpSZ = true) (ha : s.pairFault s.readFault a = none) :
    fmovLoadAt s a n f = (f (s.setD (s.fmovBase n) (s.read32 a ++ s.read32 (a + 4)))).retire 2 :=
  (if_pos hsz).trans (State.loadPair_ok ha)

theorem fmovStoreAt_single (hsz : s.fpSZ = false) :
    fmovStoreAt s a n f = s.checkWrite a 4 ((f (s.write32 a (s.cf n))).retire 2) := if_neg (ne_true_of_eq_false hsz)

theorem fmovStoreAt_pair (hsz : s.fpSZ = true) :
    fmovStoreAt s a n f = s.checkPair a ((f (s.writePair a (s.d (s.fmovBase n)))).retire 2) := if_pos hsz

theorem putsF_fmovLoad (he : exec i s = fmovLoadAt s a n id) (hsz : s.fpSZ = false) (ha : s.readFault a 4 = none) :
    PutsF i s 2 (s.bank n) (s.read32 a) :=
  putsF_of (he.trans (fmovLoadAt_single hsz ha))

theorem putsD_fmovLoad (he : exec i s = fmovLoadAt s a n id) (hsz : s.fpSZ = true) (ha : s.pairFault s.readFault a = none) :
    PutsD i s 2 (s.fmovBase n) (s.read32 a ++ s.read32 (a + 4)) :=
  putsD_of (he.trans (fmovLoadAt_pair hsz ha))

theorem runs_fmovStore_single (he : exec i s = fmovStoreAt s a n id) (hsz : s.fpSZ = false)
    (ha : s.writeFault a 4 = none) : Runs i s (s.pc + 2) { mem := bytesFrom a 4 } fun t => t.read32 a = s.cf n :=
  runs_store32 (he.trans (fmovStoreAt_single hsz)) ha

theorem runs_fmovStore_pair (he : exec i s = fmovStoreAt s a n id) (hsz : s.fpSZ = true)
    (ha : s.pairFault s.writeFault a = none) :
    Runs i s (s.pc + 2) { mem := bytesFrom a 8 } fun t =>
      t.read32 a = s.f (s.fmovBase n) ∧ t.read32 (a + 4) = s.f (s.fmovBase n + 1) :=
  runs_storePair (he.trans (fmovStoreAt_pair hsz)) ha

theorem fmovSize_single (hsz : s.fpSZ = false) : fmovSize s = 4 := if_neg (ne_true_of_eq_false hsz)

theorem fmovSize_pair (hsz : s.fpSZ = true) : fmovSize s = 8 := if_pos hsz

/-- The post-increment by the transfer size (43 R459). -/
theorem exec_cFmovLoadInc {r : CReg} {size : Word} (h : fmovSize s = size) :
    exec (.cFmovLoadInc r n) s = fmovLoadAt s (sext64 (s.r r)) n fun t => t.setR r (s.r r + size) := by
  subst h; rfl

/-- The pre-decrement by the transfer size (43 R463). -/
theorem exec_cFmovStoreDec {r : CReg} {size : Word} (h : fmovSize s = size) :
    exec (.cFmovStoreDec n r) s = fmovStoreAt s (sext64 (s.r r - size)) n fun t => t.setR r (s.r r - size) := by
  subst h; rfl

end

/-- Settles O19: vectors and moves by their registers, and each transfer as a single or a pair at the address of its rule. -/
theorem compactFpVectorsAndMoves : Obligations.CompactFpVectorsAndMoves := by
  intro s m n r p q e d12 a
  simp only [State.sext64_index, ofNat_mul_eight]
  refine ⟨fun hpr => ⟨?fipr, ?ftrv⟩, fun hsz => ?fmov, fun hsz => ?fmovPair, fun hsz ha => ⟨?load, ?loadIdx⟩,
    fun hsz ha => ⟨?store, ?storeDec, ?storeIdx⟩, fun hal hlow hhigh => ?loadPairs, fun hal hlow hhigh => ?storePairs⟩
  case fipr =>
    rw [← s.fv_eq_four p, ← s.fv_eq_four q]
    exact putsF_of (State.require_single hpr)
  case ftrv =>
    have hfr (k : BitVec 2) :
        s.bank (fvField q 0) + k.setWidth 6 ∈
          [s.bank (q ++ 0#2), s.bank (q ++ 1#2), s.bank (q ++ 2#2), s.bank (q ++ 3#2)] := by
      rw [s.bank_fvField_add]
      obtain rfl | rfl | rfl | rfl : k = 0 ∨ k = 1 ∨ k = 2 ∨ k = 3 := by revert k; decide
      all_goals simp
    rw [← s.fv_eq_four q, ← s.mtrx_eq_ofFn]
    refine runs_retire (State.require_single hpr) (s.setFv_pc _ _) ((Keeps.refl _ s).setFv _ hfr) fun k => ?_
    rw [State.cf_finish, State.cf, State.bank_setFv, ← s.bank_fvField_add]
    exact s.f_setFv _ _ k
  case fmov => exact putsF_of (if_neg (ne_true_of_eq_false hsz))
  case fmovPair => exact putsD_of (if_pos hsz)
  case load =>
    rintro rfl
    refine ⟨putsF_fmovLoad rfl hsz ha, ?_⟩
    exact runs_retire ((exec_cFmovLoadInc (fmovSize_single hsz)).trans (fmovLoadAt_single hsz ha)) rfl
      (((Keeps.refl _ s).setF _ (by simp)).setR _ (by simp)) ⟨(State.f_setF _ _ _ _).trans (if_pos rfl), State.g_setR _ _ _⟩
  case loadIdx => rintro rfl; exact putsF_fmovLoad rfl hsz ha
  case store => rintro rfl; exact runs_fmovStore_single rfl hsz ha
  case storeDec =>
    rintro rfl
    have he := (exec_cFmovStoreDec (n := m) (r := r) (fmovSize_single hsz)).trans (fmovStoreAt_single hsz)
    exact runs_retire (he.trans (State.checkWrite_ok ha)) rfl
      (((Keeps.refl _ s).write32 _ fun _ hx => hx).setR _ (by simp)) ⟨State.read32_write32 _ _ _, State.g_setR _ _ _⟩
  case storeIdx => rintro rfl; exact runs_fmovStore_single rfl hsz ha
  case loadPairs =>
    have ha : s.pairFault s.readFault a = none := State.pairFault_eq_none.2 ⟨hal, hlow, hhigh⟩
    refine ⟨fun hsz => ?reg, fun hsz => ?idx, fun hd => ?disp12⟩
    case reg =>
      rintro rfl
      refine ⟨putsD_fmovLoad rfl hsz ha, ?_⟩
      obtain ⟨hhi, hlo⟩ := s.f_setD (s.fmovBase n) (s.read32 (sext64 (s.r r))) (s.read32 (sext64 (s.r r) + 4))
      exact runs_retire ((exec_cFmovLoadInc (fmovSize_pair hsz)).trans (fmovLoadAt_pair hsz ha)) rfl
        (((Keeps.refl _ s).setD _ (by simp) (by simp)).setR _ (by simp)) ⟨hhi, hlo, State.g_setR _ _ _⟩
    case idx => rintro rfl; exact putsD_fmovLoad rfl hsz ha
    case disp12 => rintro rfl; exact putsD_of ((if_neg (not_msb_disp12 hd)).trans (State.loadPair_ok ha))
  case storePairs =>
    have ha : s.pairFault s.writeFault a = none := State.pairFault_eq_none.2 ⟨hal, hlow, hhigh⟩
    refine ⟨fun hsz => ?reg, fun hsz => ?dec, fun hsz => ?idx, fun hd => ?disp12⟩
    case reg => rintro rfl; exact runs_fmovStore_pair rfl hsz ha
    case dec =>
      rintro rfl
      have he := (exec_cFmovStoreDec (n := m) (r := r) (fmovSize_pair hsz)).trans (fmovStoreAt_pair hsz)
      obtain ⟨hhi, hlo⟩ := s.read32_writePair (sext64 (s.r r - 8)) (s.f (s.fmovBase m)) (s.f (s.fmovBase m + 1))
      exact runs_retire (he.trans (State.checkPair_ok ha)) rfl
        (((Keeps.refl _ s).writePair _ fun _ hx => hx).setR _ (by simp)) ⟨hhi, hlo, State.g_setR _ _ _⟩
    case idx => rintro rfl; exact runs_fmovStore_pair rfl hsz ha
    case disp12 =>
      rintro rfl
      have heven : (e ++ 0#1 : CReg).toNat % 2 = 0 := by revert e; decide
      have hsucc : (e ++ 0#1 : CReg) + 1 = e ++ 1#1 := by revert e; decide
      have hodd : s.cf (e ++ 1#1) = s.f (s.bank (e ++ 0#1) + 1) := by rw [State.cf, s.bank_add_one heven, hsucc]
      rw [hodd]
      exact runs_storePair (if_neg (not_msb_disp12 hd)) ha

end Sys2Proof.Machine
end

section
/-! SUPPORT. The FP opcodes whose check fails (43 R431, 48 R751, 60 R851): a check that fails reports `InvalidInstruction`. -/

namespace Sys2Proof.Machine

theorem reportsInvalid_of {i : Instr} {s : State} {k : Result} {ok : Bool} (he : exec i s = s.require ok k)
    (hok : ok = false) : ReportsInvalid i s :=
  he.trans (State.require_failed hok)

theorem evenF_of_odd {d : MReg} (hd : d.toNat % 2 = 1) : evenF d = false := by revert d; decide

theorem mult4_of_mod_ne {d : MReg} (hd : d.toNat % 4 ≠ 0) : mult4 d = false := by revert d; decide

theorem mult16_of_mod_ne {d : MReg} (hd : d.toNat % 16 ≠ 0) : mult16 d = false := by revert d; decide

/-! ### The compact opcodes under FPSCR.PR (43 R431) -/

section
variable {i : Instr} {s : State} {m n : CReg}

theorem reportsInvalid_unary {f32 : Word → Word} {f64 : Quad → Quad} (he : exec i s = fpUnary s n f32 f64)
    (hpr : s.fpPR = true) (hn : evenC n = false) : ReportsInvalid i s :=
  reportsInvalid_of (he.trans (fpUnary_double hpr)) hn

theorem reportsInvalid_binary {g32 : Word → Word → Word} {g64 : Quad → Quad → Quad}
    (he : exec i s = fpBinary s m n g32 g64) (hpr : s.fpPR = true) (hodd : (evenC n && evenC m) = false) :
    ReportsInvalid i s :=
  reportsInvalid_of (he.trans (fpBinary_double hpr)) hodd

theorem reportsInvalid_compare {c32 : Word → Word → Bool} {c64 : Quad → Quad → Bool}
    (he : exec i s = fpCompare s m n c32 c64) (hpr : s.fpPR = true) (hodd : (evenC n && evenC m) = false) :
    ReportsInvalid i s :=
  reportsInvalid_of (he.trans (fpCompare_double hpr)) hodd

end

/-- Settles O35: every form's meaning begins with the check of its mode or of its fields, and one part of that check is false. -/
theorem fpIllegalForms : Obligations.FpIllegalForms := by
  refine ⟨fun s m n p q e => ⟨fun hpr hodd => ?odd, fun hpr => ?singleOnly, fun hpr => ?doubleOnly⟩,
    fun s m n d imm => ⟨fun hne => ?differ, fun hm => ?oddM, fun hn => ?oddN, fun hd => ?oddD, fun h => ?fipr,
      fun h => ?ftrv⟩⟩
  case odd =>
    have hn : evenC n = false := evenC_of_odd hodd
    have hdest : (evenC n && evenC m) = false := by rw [hn, Bool.false_and]
    have hsrc : (evenC m && evenC n) = false := by rw [hn, Bool.and_false]
    refine List.forall_iff_forall_mem.1 ?_
    exact ⟨reportsInvalid_unary rfl hpr hn, reportsInvalid_unary rfl hpr hn, reportsInvalid_unary rfl hpr hn,
      reportsInvalid_of (if_pos hpr) hn, reportsInvalid_of (if_pos hpr) hn,
      reportsInvalid_binary rfl hpr hdest, reportsInvalid_binary rfl hpr hdest, reportsInvalid_binary rfl hpr hdest,
      reportsInvalid_binary rfl hpr hdest, reportsInvalid_compare rfl hpr hdest, reportsInvalid_compare rfl hpr hdest,
      reportsInvalid_binary rfl hpr hsrc, reportsInvalid_binary rfl hpr hsrc, reportsInvalid_binary rfl hpr hsrc,
      reportsInvalid_binary rfl hpr hsrc, reportsInvalid_compare rfl hpr hsrc, reportsInvalid_compare rfl hpr hsrc⟩
  case singleOnly =>
    have hsingle : (!s.fpPR) = false := congrArg Bool.not hpr
    refine List.forall_iff_forall_mem.1 ?_
    and_intros <;> exact reportsInvalid_of rfl hsingle
  case doubleOnly => exact List.forall_iff_forall_mem.1 ⟨reportsInvalid_of rfl hpr, reportsInvalid_of rfl hpr⟩
  case differ =>
    have hsame : (m == n) = false := beq_false_of_ne hne
    refine List.forall_iff_forall_mem.1 ?_
    -- The checks of these forms differ in length; each is a conjunction with this part.
    and_intros <;> exact reportsInvalid_of rfl (by simp [hsame])
  case oddM =>
    have heven : evenF m = false := evenF_of_odd hm
    refine List.forall_iff_forall_mem.1 ?_
    and_intros <;> exact reportsInvalid_of rfl (by simp [heven])
  case oddN =>
    have heven : evenF n = false := evenF_of_odd hn
    refine List.forall_iff_forall_mem.1 ?_
    and_intros <;> exact reportsInvalid_of rfl (by simp [heven])
  case oddD =>
    have heven : evenF d = false := evenF_of_odd hd
    refine List.forall_iff_forall_mem.1 ?_
    and_intros <;> exact reportsInvalid_of rfl (by simp [heven])
  case fipr =>
    refine reportsInvalid_of rfl ?_
    rcases h with hm | hn
    · rw [mult4_of_mod_ne hm, Bool.false_and]
    · rw [mult4_of_mod_ne hn, Bool.and_false]
  case ftrv =>
    refine reportsInvalid_of rfl ?_
    rcases h with hm | hn | hd
    · rw [mult16_of_mod_ne hm, Bool.false_and, Bool.false_and]
    · rw [mult4_of_mod_ne hn, Bool.and_false, Bool.false_and]
    · rw [mult4_of_mod_ne hd, Bool.and_false]

end Sys2Proof.Machine
end

section
/-! SUPPORT. The results of the media integer instructions (spec 44): the machine's words and quads computed with `+`, `*` and the
shifts are the images of the integers that the statements name, and a run of sign bits ends where it is said to end. -/

namespace Sys2Proof.Machine

/-! ### A media instruction that puts what is stated in other words -/

section
variable {i : Instr} {s : State} {d : MReg} {v w : Quad}

theorem putsG_of_eq (he : exec i s = s.putG d w) (hv : w = v) : PutsG i s d v := putsG_of (hv ▸ he)

/-- An instruction that only advances leaves its destination as it was; R63 is 0 in any case. -/
theorem putsG_self_of (he : exec i s = s.retire 4) : PutsG i s d (s.g d) :=
  runs_retire he rfl (Keeps.refl _ s) (by
    show s.g d = _
    split
    · rw [‹d = 63›, State.g_63]
    · rfl)

end

/-! ### The operands of the `.l` forms (44 R501), and the immediates -/

section
variable (a b : Quad)

theorem low32_eq_ofNat : low32 a = BitVec.ofNat 32 a.toNat := (BitVec.ofNat_toNat 32 a).symm

theorem low32_eq_ofInt : low32 a = BitVec.ofInt 32 a.toInt := by
  rw [low32, ← BitVec.signExtend_eq_setWidth_of_le a (by decide), BitVec.signExtend]

theorem toNat_low32 : (low32 a).toNat = a.toNat % 2 ^ 32 := BitVec.toNat_setWidth 32 a

theorem getLsbD_low32 {k : Nat} (hk : k < 32) : (low32 a).getLsbD k = a.getLsbD k := by
  rw [low32, BitVec.getLsbD_setWidth, decide_eq_true hk, Bool.true_and]

theorem sext64_eq_ofInt (v : Word) : sext64 v = BitVec.ofInt 64 v.toInt := rfl

theorem zext64_ofNat (n : Nat) : zext64 (BitVec.ofNat 32 n) = BitVec.ofNat 64 (n % 2 ^ 32) := by
  rw [zext64, ← BitVec.ofNat_toNat, BitVec.toNat_ofNat]

/-! ### Sums and differences (44 R503 to R509) -/

theorem sub_eq_ofInt_toInt {w : Nat} (x y : BitVec w) : x - y = BitVec.ofInt w (x.toInt - y.toInt) := by
  rw [ofInt_sub, BitVec.ofInt_toInt, BitVec.ofInt_toInt]

theorem add_sx64_eq_ofInt {k : Nat} (imm : BitVec k) : a + sx64 imm 0 = BitVec.ofInt 64 (a.toInt + imm.toInt) := by
  rw [BitVec.ofInt_add, BitVec.ofInt_toInt, ofInt_eq_sx64]

theorem low32_add_eq_ofNat : low32 a + low32 b = BitVec.ofNat 32 (a.toNat + b.toNat) := by
  rw [BitVec.ofNat_add, low32_eq_ofNat, low32_eq_ofNat]

theorem low32_sub_eq_ofInt : low32 a - low32 b = BitVec.ofInt 32 (a.toInt - b.toInt) := by
  rw [ofInt_sub, low32_eq_ofInt, low32_eq_ofInt]

theorem low32_add_sx32_eq_ofInt {k : Nat} (imm : BitVec k) :
    low32 a + sx32 imm 0 = BitVec.ofInt 32 (a.toInt + imm.toInt) := by
  rw [BitVec.ofInt_add, low32_eq_ofInt, sx32_zero]

end

/-- Settles O20: each sum and difference is the image of the integer one, and the logic is bit by bit. -/
theorem mediaAddAndLogic : Obligations.MediaAddAndLogic := by
  intro s m n d imm
  refine ⟨?add, ?addL, ?addi, ?addiL, ?addzL, ?sub, ?subL, ⟨_, putsG_of rfl, ?and⟩, ⟨_, putsG_of rfl, ?andc⟩, ?andi,
    ⟨_, putsG_of rfl, ?or⟩, ?ori⟩
  case add => exact putsG_of_eq rfl (BitVec.add_def _ _)
  case addL => exact putsG_of_eq rfl (congrArg sext64 (low32_add_eq_ofNat _ _))
  case addi => exact putsG_of_eq rfl (add_sx64_eq_ofInt _ imm)
  case addiL => exact putsG_of_eq rfl (congrArg sext64 (low32_add_sx32_eq_ofInt _ imm))
  case addzL => exact putsG_of_eq rfl ((congrArg zext64 (low32_add_eq_ofNat _ _)).trans (zext64_ofNat _))
  case sub => exact putsG_of_eq rfl (sub_eq_ofInt_toInt _ _)
  case subL => exact putsG_of_eq rfl (congrArg sext64 (low32_sub_eq_ofInt _ _))
  case and => exact fun k => BitVec.getLsbD_and
  case andc =>
    intro k
    rw [BitVec.getLsbD_and, BitVec.getLsbD_not]
    by_cases hk : k < 64
    · rw [decide_eq_true hk, Bool.true_and]
    · rw [BitVec.getLsbD_of_ge _ k (Nat.le_of_not_lt hk), Bool.false_and, Bool.false_and]
  case andi => exact putsG_of_eq rfl (congrArg _ (ofInt_eq_sx64 imm).symm)
  case or => exact fun k => BitVec.getLsbD_or
  case ori => exact putsG_of_eq rfl (congrArg _ (ofInt_eq_sx64 imm).symm)

/-! ### Compares, sign bits, byte reversal and multiplies (44 R517 to R525) -/

theorem truth_decide (w : Nat) (p : Prop) [Decidable p] : truth w (decide p) = if p then 1 else 0 := by
  simp only [truth, decide_eq_true_eq]

section
variable {v : Quad} {k : Nat}

theorem signRun_succ_of_eq (h : v.getLsbD k = v.msb) : signRun v (k + 1) = signRun v k + 1 := if_pos h

theorem signRun_succ_of_ne (h : v.getLsbD k ≠ v.msb) : signRun v (k + 1) = 0 := if_neg h

theorem signRun_le (v : Quad) (k : Nat) : signRun v k ≤ k := by
  induction k with
  | zero => exact Nat.le_refl 0
  | succ k ih =>
    by_cases h : v.getLsbD k = v.msb
    · rw [signRun_succ_of_eq h]; exact Nat.succ_le_succ ih
    · rw [signRun_succ_of_ne h]; exact Nat.zero_le _

/-- The bits of the run are copies of the sign. -/
theorem getLsbD_eq_msb_of_signRun {j : Nat} (hj : j < signRun v k) : v.getLsbD (k - 1 - j) = v.msb := by
  induction k generalizing j with
  | zero => exact absurd hj (Nat.not_lt_zero j)
  | succ k ih =>
    by_cases h : v.getLsbD k = v.msb
    · rw [signRun_succ_of_eq h] at hj
      cases j with
      | zero => exact h
      | succ j =>
        have hbit := ih (Nat.lt_of_succ_lt_succ hj)
        rwa [show k + 1 - 1 - (j + 1) = k - 1 - j by omega]
    · rw [signRun_succ_of_ne h] at hj
      exact absurd hj (Nat.not_lt_zero j)

/-- The bit below the run is not a copy of the sign. -/
theorem getLsbD_ne_msb_of_signRun_lt (hk : signRun v k < k) : v.getLsbD (k - 1 - signRun v k) ≠ v.msb := by
  induction k with
  | zero => exact absurd hk (Nat.not_lt_zero _)
  | succ k ih =>
    by_cases h : v.getLsbD k = v.msb
    · rw [signRun_succ_of_eq h] at hk ⊢
      have hbit := ih (Nat.lt_of_succ_lt_succ hk)
      rwa [show k + 1 - 1 - (signRun v k + 1) = k - 1 - signRun v k by omega]
    · rw [signRun_succ_of_ne h]
      exact h

end

/-- A byte appended at the low end moves the others up by one position. -/
theorem byte_append_succ {n j : Nat} {hi : BitVec n} {lo b : Byte} (h : hi.extractLsb' (8 * j) 8 = b) :
    (hi ++ lo).extractLsb' (8 * (j + 1)) 8 = b := by
  rw [BitVec.extractLsb'_append_eq_of_le (by omega), show 8 * (j + 1) - 8 = 8 * j by omega, h]

theorem byteAt_packB (f : Nat → Byte) {j : Nat} (hj : j < 8) : byteAt (packB f) j = f j := by
  obtain rfl | hlow : j = 7 ∨ j < 7 := by omega
  · iterate 7 refine byte_append_succ ?_
    exact BitVec.extractLsb'_eq_self
  · interval_cases j
    all_goals repeat refine byte_append_succ ?_
    all_goals exact BitVec.extractLsb'_append_eq_right

theorem zext64_low32_mul (a b : Quad) :
    zext64 (low32 a) * zext64 (low32 b) = BitVec.ofNat 64 (a.toNat % 2 ^ 32 * (b.toNat % 2 ^ 32)) := by
  rw [BitVec.ofNat_mul, zext64_low32, zext64_low32]

/-- Settles O21: each compare as the one of the integers, the moves by their condition, and nsb by the run of sign bits below
bit 63. -/
theorem mediaCompareMoveMultiply : Obligations.MediaCompareMoveMultiply := by
  intro s m n d imm
  refine ⟨⟨_, putsG_of rfl, ?xor⟩, ?xori, ?cmpeq, ?cmpgt, ?cmpgtu, ?cmveq, ?cmvne,
    ⟨_, putsG_of rfl, ?nsbLt, ?nsbRun, ?nsbEnd⟩, ⟨_, putsG_of rfl, ?byterev⟩, ?muluL, ?mulsL⟩
  case xor => exact fun k => BitVec.getLsbD_xor
  case xori => exact putsG_of_eq rfl (congrArg _ (ofInt_eq_sx64 imm).symm)
  case cmpeq => exact putsG_of_eq rfl (by rw [beq_eq_decide, truth_decide])
  case cmpgt => exact putsG_of_eq rfl (truth_decide 64 _)
  case cmpgtu => exact putsG_of_eq rfl (truth_decide 64 _)
  case cmveq =>
    by_cases h : s.g m = 0
    · rw [if_pos h]; exact putsG_of (if_pos h)
    · rw [if_neg h]; exact putsG_self_of (if_neg h)
  case cmvne =>
    by_cases h : s.g m = 0
    · rw [if_neg (not_not_intro h)]; exact putsG_self_of (if_pos h)
    · rw [if_pos h]; exact putsG_of (if_neg h)
  case nsbLt => exact Nat.lt_succ_of_le (signRun_le _ 63)
  case nsbRun =>
    intro j hj
    cases j with
    | zero => exact (BitVec.msb_eq_getLsbD_last _).symm
    | succ j => rw [show 63 - (j + 1) = 63 - 1 - j by omega, getLsbD_eq_msb_of_signRun hj]
  case nsbEnd => exact getLsbD_ne_msb_of_signRun_lt
  case byterev => exact fun j hj => byteAt_packB _ hj
  case muluL => exact putsG_of_eq rfl (zext64_low32_mul _ _)
  case mulsL => exact putsG_of rfl

/-! ### Shifts (44 R526 to R537) -/

theorem count6_eq (v : Quad) : count6 v = v.toNat % 64 := by rw [count6, BitVec.extractLsb'_toNat, Nat.shiftRight_zero]

theorem count5_eq (v : Quad) : count5 v = v.toNat % 32 := by rw [count5, BitVec.extractLsb'_toNat, Nat.shiftRight_zero]

theorem immCount5_eq (v : BitVec 6) : immCount5 v = v.toNat % 32 := by
  rw [immCount5, BitVec.extractLsb'_toNat, Nat.shiftRight_zero]

section
variable (a : Quad) (k : Nat)

theorem quad_shl_eq_ofNat : a <<< k = BitVec.ofNat 64 (a.toNat * 2 ^ k) :=
  congrArg (BitVec.ofNat 64) (Nat.shiftLeft_eq _ _)

theorem quad_shr_eq_ofNat : a >>> k = BitVec.ofNat 64 (a.toNat / 2 ^ k) := by
  rw [← Nat.shiftRight_eq_div_pow, ← BitVec.toNat_ushiftRight, BitVec.ofNat_toNat, BitVec.setWidth_eq]

theorem toInt_sshiftRight_eq_div {w : Nat} (x : BitVec w) : (x.sshiftRight k).toInt = x.toInt / 2 ^ k := by
  rw [BitVec.toInt_sshiftRight, Int.shiftRight_eq_div_pow, Nat.cast_pow]; rfl

theorem quad_sar_eq_ofInt : a.sshiftRight k = BitVec.ofInt 64 (a.toInt / 2 ^ k) := by
  rw [← toInt_sshiftRight_eq_div, BitVec.ofInt_toInt]

theorem low32_shl_eq_ofNat : low32 a <<< k = BitVec.ofNat 32 (a.toNat * 2 ^ k) := by
  rw [shl_eq_ofNat, BitVec.ofNat_mul, BitVec.ofNat_toNat, BitVec.setWidth_eq, low32_eq_ofNat, ← BitVec.ofNat_mul]

theorem low32_shr_eq_ofNat : low32 a >>> k = BitVec.ofNat 32 (a.toNat % 2 ^ 32 / 2 ^ k) := by
  rw [shr_eq_ofNat, toNat_low32]

theorem sext64_sar_eq_ofInt (v : Word) : sext64 (v.sshiftRight k) = BitVec.ofInt 64 (v.toInt / 2 ^ k) := by
  rw [sext64_eq_ofInt, toInt_sshiftRight_eq_div]

end

/-- Settles O22: each shift as a product or a quotient, by the count that its rule takes from the register or the immediate. -/
theorem mediaShifts : Obligations.MediaShifts := by
  intro s m n d imm
  rw [← count6_eq, ← count5_eq, ← immCount5_eq]
  refine ⟨?shlld, ?shlldL, ?shlrd, ?shlrdL, ?shard, ?shardL, ?shlli, ?shlliL, ?shlri, ?shlriL, ?shari, ?shariL⟩
  case shlld | shlli => exact putsG_of_eq rfl (quad_shl_eq_ofNat _ _)
  case shlldL | shlliL => exact putsG_of_eq rfl (congrArg sext64 (low32_shl_eq_ofNat _ _))
  case shlrd | shlri => exact putsG_of_eq rfl (quad_shr_eq_ofNat _ _)
  case shlrdL | shlriL => exact putsG_of_eq rfl (congrArg sext64 (low32_shr_eq_ofNat _ _))
  case shard | shari => exact putsG_of_eq rfl (quad_sar_eq_ofInt _ _)
  case shardL | shariL => exact putsG_of_eq rfl (sext64_sar_eq_ofInt _ _)

end Sys2Proof.Machine
end

section
/-! SUPPORT. The media wide immediates (44 R538, R539), the prepare instructions (47 R683 to R687) and the control registers (47
R697, R698): a target as the integer that its rule adds to PC, and a register read after it is written. -/

namespace Sys2Proof.Machine

/-- A quad moved up by 16 bits has room for the immediate: the `or` is the sum (44 R539). -/
theorem shl_or_zx64_eq_ofNat (a : Quad) (imm : BitVec 16) :
    (a <<< 16) ||| zx64 imm = BitVec.ofNat 64 (a.toNat * 2 ^ 16 + imm.toNat) := by
  rw [← Nat.shiftLeft_eq, Nat.shiftLeft_add_eq_or_of_lt imm.isLt, BitVec.ofNat_or, Nat.shiftLeft_eq, ← quad_shl_eq_ofNat,
    zx64, BitVec.ofNat_toNat]

/-- A prepare instruction writes one target register (47 R683 to R686). -/
theorem runs_setTr {i : Instr} {s : State} {a : TReg} {v w : Quad} (he : exec i s = (s.setTr a w).retire 4) (hv : w = v) :
    Runs i s (s.pc + 4) { tr := [a] } fun t => t.t a = v :=
  runs_retire he rfl ((Keeps.refl _ s).setTr _ (by simp)) ((s.t_setTr a a w).trans ((if_pos rfl).trans hv))

/-- The target of pta has bit 0 set, which selects media mode (47 R683). -/
theorem add_sx64_add_one (pc : Quad) (imm : BitVec 16) :
    pc + sx64 imm 2 + 1 = pc + BitVec.ofInt 64 (imm.toInt * 4 + 1) := by
  rw [BitVec.ofInt_add, ofInt_mul_four, BitVec.add_assoc]; rfl

theorem State.c_zero (s : State) : s.c 0 = BitVec.ofNat 64 s.sr.toNat := (BitVec.ofNat_toNat 64 s.sr).symm

/-- putcon of a control register other than SR (47 R698). -/
theorem runs_setC {i : Instr} {s : State} {k : MReg} {v : Quad} (hk : k ≠ 0) (he : exec i s = (s.setC k v).retire 4) :
    Runs i s (s.pc + 4) { cr := [k] } fun t => t.c k = v :=
  runs_retire he (s.setC_pc k v) ((Keeps.refl _ s).setC _ hk (by simp))
    ((s.c_setC k k v).trans ((if_pos rfl).trans (if_neg hk)))

/-- putcon of CR[0] writes SR, and with it the four flags (10 R35, R36, 47 R698). -/
theorem runs_setC_zero {i : Instr} {s : State} {v : Quad} (he : exec i s = (s.setC 0 v).retire 4) :
    Runs i s (s.pc + 4) { sr := 0xFFFFFFFF } fun t => t.sr = low32 v ∧ t.flagT = v.getLsbD 0 ∧ t.flagS = v.getLsbD 1 ∧
      t.flagQ = v.getLsbD 8 ∧ t.flagM = v.getLsbD 9 :=
  runs_retire he rfl ((Keeps.refl _ s).setC_zero _ rfl)
    ⟨rfl, getLsbD_low32 v (by decide), getLsbD_low32 v (by decide), getLsbD_low32 v (by decide),
      getLsbD_low32 v (by decide)⟩

/-- Settles O23: the immediates as integers, the targets as PC and the offset that each rule adds, and CR[0] as SR. -/
theorem mediaImmediatesTargetsControl : Obligations.MediaImmediatesTargetsControl := by
  intro s m d imm l a
  refine ⟨?movi, ?shori, ?pta, ?ptb, ?ptabs, ?ptrel, ?gettr, fun _ => ?getcon, ?getconSr, fun hd => ?putcon, ?putconSr⟩
  case movi => exact putsG_of_eq rfl (ofInt_eq_sx64 imm).symm
  case shori => exact putsG_of_eq rfl (shl_or_zx64_eq_ofNat _ imm)
  case pta => exact runs_setTr rfl (add_sx64_add_one _ imm)
  case ptb => exact runs_setTr rfl (congrArg _ (ofInt_mul_four imm).symm)
  case ptabs | ptrel => exact runs_setTr rfl rfl
  case gettr | getcon => exact putsG_of rfl
  case getconSr => exact putsG_of_eq rfl s.c_zero
  case putcon => exact runs_setC hd rfl
  case putconSr => exact runs_setC_zero rfl

end Sys2Proof.Machine
end

section
/-! SUPPORT. The media packed sums, differences, absolute values, compares and narrowings (45 R565 to R586): a lane read back from
the register packed of lanes, saturation as a clamp of integers, and the lane masks. -/

namespace Sys2Proof.Machine

/-! ### A lane read back from a packed register (00 R15) -/

section
variable {w n j : Nat}

theorem lane_append_zero {hi : BitVec n} {lo : BitVec w} : (hi ++ lo).extractLsb' (w * 0) w = lo :=
  BitVec.extractLsb'_append_eq_right

/-- A lane appended at the low end moves the others up by one position. -/
theorem lane_append_succ {hi : BitVec n} {lo v : BitVec w} (h : hi.extractLsb' (w * j) w = v) :
    (hi ++ lo).extractLsb' (w * (j + 1)) w = v := by
  rw [Nat.mul_succ, BitVec.extractLsb'_append_eq_of_le (Nat.le_add_left w _), Nat.add_sub_cancel, h]

end

theorem wordAt_packW (f : Nat → Half) {j : Nat} (hj : j < 4) : wordAt (packW f) j = f j := by
  match j, hj with
  | 0, _ => exact lane_append_zero
  | 1, _ => exact lane_append_succ lane_append_zero
  | 2, _ => exact lane_append_succ (lane_append_succ lane_append_zero)
  | 3, _ => exact lane_append_succ (lane_append_succ (lane_append_succ BitVec.extractLsb'_eq_self))

theorem longAt_packL (f : Nat → Word) {j : Nat} (hj : j < 2) : longAt (packL f) j = f j := by
  match j, hj with
  | 0, _ => exact lane_append_zero
  | 1, _ => exact lane_append_succ BitVec.extractLsb'_eq_self

/-! ### Saturation (00 R16) -/

theorem toInt_satS {n : Nat} (hn : 0 < n) (v : Int) :
    (satS n v).toInt = max (-2 ^ (n - 1)) (min (2 ^ (n - 1) - 1) v) := by
  have hpos : (0 : Int) < 2 ^ (n - 1) := by positivity
  exact BitVec.toInt_ofInt_eq_self hn (le_max_left _ _) (max_lt (by omega) (by omega))

theorem toNat_satU (n : Nat) (v : Int) : ((satU n v).toNat : Int) = max 0 (min (2 ^ n - 1) v) := by
  have hpos : (0 : Int) < 2 ^ n := by positivity
  rw [satU, BitVec.toNat_ofInt, Nat.cast_pow, Nat.cast_two, Int.emod_eq_of_lt (le_max_left _ _) (by omega),
    Int.toNat_of_nonneg (le_max_left _ _)]

/-- An absolute value meets the upper bound alone (45 R575, R576). -/
theorem toInt_satS_natAbs {n : Nat} (hn : 0 < n) (v : Int) : (satS n v.natAbs).toInt = min (2 ^ (n - 1) - 1) |v| := by
  have hpos : (0 : Int) < 2 ^ (n - 1) := by positivity
  have habs : 0 ≤ |v| := abs_nonneg v
  rw [toInt_satS hn, Int.natCast_natAbs]
  omega

section
variable (f : Nat → Int) {j : Nat}

theorem toInt_wordAt_satS (hj : j < 4) :
    (wordAt (packW fun k => satS 16 (f k)) j).toInt = max (-2 ^ 15) (min (2 ^ 15 - 1) (f j)) := by
  rw [wordAt_packW _ hj]; exact toInt_satS (by decide) _

theorem toInt_longAt_satS (hj : j < 2) :
    (longAt (packL fun k => satS 32 (f k)) j).toInt = max (-2 ^ 31) (min (2 ^ 31 - 1) (f j)) := by
  rw [longAt_packL _ hj]; exact toInt_satS (by decide) _

theorem toInt_byteAt_satS (hj : j < 8) :
    (byteAt (packB fun k => satS 8 (f k)) j).toInt = max (-2 ^ 7) (min (2 ^ 7 - 1) (f j)) := by
  rw [byteAt_packB _ hj]; exact toInt_satS (by decide) _

theorem toNat_byteAt_satU (hj : j < 8) :
    ((byteAt (packB fun k => satU 8 (f k)) j).toNat : Int) = max 0 (min 255 (f j)) := by
  rw [byteAt_packB _ hj]; exact toNat_satU 8 _

end

/-! ### Masks, and the lanes of the narrowings -/

theorem laneMask_decide (w : Nat) (p : Prop) [Decidable p] :
    laneMask w (decide p) = if p then BitVec.allOnes w else 0 := by
  simp only [laneMask, decide_eq_true_eq]

/-- The bitwise move (45 R583): each bit is selected by the same bit of `c`. -/
theorem getLsbD_select (x y c : Quad) (k : Nat) :
    ((x &&& c) ||| (y &&& ~~~c)).getLsbD k = if c.getLsbD k then x.getLsbD k else y.getLsbD k := by
  rw [BitVec.getLsbD_or, BitVec.getLsbD_and, BitVec.getLsbD_and, BitVec.getLsbD_not]
  by_cases hk : k < 64
  · cases c.getLsbD k <;> simp [hk]
  · simp [BitVec.getLsbD_of_ge _ k (Nat.le_of_not_lt hk)]

section
variable {α : Type} (f : Quad → Nat → α) (x y : Quad) {h j : Nat}

/-- The lower half of a narrowing's lanes comes from the first source (45 R584 to R586). -/
theorem narrow_lower (hj : j < h) : f (if j < h then x else y) (j % h) = f x j := by
  rw [if_pos hj, Nat.mod_eq_of_lt hj]

/-- The upper half comes from the second. -/
theorem narrow_upper (hj : j < h) : f (if j + h < h then x else y) ((j + h) % h) = f y j := by
  rw [if_neg (by omega), Nat.add_mod_right, Nat.mod_eq_of_lt hj]

end

/-- Settles O25: lane by lane, the wrapping results by the definition of `+` and `-`, the others as clamps and masks. -/
theorem mediaPackedAddCompareNarrow : Obligations.MediaPackedAddCompareNarrow := by
  intro s m n d
  refine ⟨⟨_, putsG_of rfl, ?maddW⟩, ⟨_, putsG_of rfl, ?maddL⟩, ⟨_, putsG_of rfl, ?maddsUb⟩, ⟨_, putsG_of rfl, ?maddsW⟩,
    ⟨_, putsG_of rfl, ?maddsL⟩, ⟨_, putsG_of rfl, ?msubW⟩, ⟨_, putsG_of rfl, ?msubL⟩, ⟨_, putsG_of rfl, ?msubsUb⟩,
    ⟨_, putsG_of rfl, ?msubsW⟩, ⟨_, putsG_of rfl, ?msubsL⟩, ⟨_, putsG_of rfl, ?mabsW⟩, ⟨_, putsG_of rfl, ?mabsL⟩,
    ⟨_, putsG_of rfl, ?mcmpeqB⟩, ⟨_, putsG_of rfl, ?mcmpeqW⟩, ⟨_, putsG_of rfl, ?mcmpeqL⟩, ⟨_, putsG_of rfl, ?mcmpgtUb⟩,
    ⟨_, putsG_of rfl, ?mcmpgtW⟩, ⟨_, putsG_of rfl, ?mcmpgtL⟩, ⟨_, putsG_of rfl, ?mcmv⟩, ⟨_, putsG_of rfl, ?mcnvsLw⟩,
    ⟨_, putsG_of rfl, ?mcnvsWb⟩, ⟨_, putsG_of rfl, ?mcnvsWub⟩⟩
  case maddW => exact fun j hj => (wordAt_packW _ hj).trans (BitVec.add_def _ _)
  case maddL => exact fun j hj => (longAt_packL _ hj).trans (BitVec.add_def _ _)
  case maddsUb =>
    intro j hj
    have hsat := toNat_byteAt_satU (fun k => ((byteAt (s.g m) k).toNat + (byteAt (s.g n) k).toNat : Int)) hj
    omega
  case maddsW | msubsW => exact fun j hj => toInt_wordAt_satS _ hj
  case maddsL | msubsL => exact fun j hj => toInt_longAt_satS _ hj
  case msubW => exact fun j hj => (wordAt_packW _ hj).trans (sub_eq_ofInt_toInt _ _)
  case msubL => exact fun j hj => (longAt_packL _ hj).trans (sub_eq_ofInt_toInt _ _)
  case msubsUb =>
    intro j hj
    have hsat := toNat_byteAt_satU (fun k => ((byteAt (s.g m) k).toNat - (byteAt (s.g n) k).toNat : Int)) hj
    -- The difference is below 256, so only the lower bound is met.
    have hlt := (byteAt (s.g m) j).isLt
    omega
  case mabsW => exact fun j hj => (congrArg _ (wordAt_packW _ hj)).trans (toInt_satS_natAbs (by decide) _)
  case mabsL => exact fun j hj => (congrArg _ (longAt_packL _ hj)).trans (toInt_satS_natAbs (by decide) _)
  case mcmpeqB | mcmpgtUb => exact fun j hj => (byteAt_packB _ hj).trans (laneMask_decide 8 _)
  case mcmpeqW | mcmpgtW => exact fun j hj => (wordAt_packW _ hj).trans (laneMask_decide 16 _)
  case mcmpeqL | mcmpgtL => exact fun j hj => (longAt_packL _ hj).trans (laneMask_decide 32 _)
  case mcmv => exact getLsbD_select _ _ _
  case mcnvsLw =>
    intro j hj
    rw [toInt_wordAt_satS _ (by omega), toInt_wordAt_satS _ (by omega), narrow_lower longAt _ _ hj, narrow_upper longAt _ _ hj]
    exact ⟨rfl, rfl⟩
  case mcnvsWb =>
    intro j hj
    rw [toInt_byteAt_satS _ (by omega), toInt_byteAt_satS _ (by omega), narrow_lower wordAt _ _ hj, narrow_upper wordAt _ _ hj]
    exact ⟨rfl, rfl⟩
  case mcnvsWub =>
    intro j hj
    rw [toNat_byteAt_satU _ (by omega), toNat_byteAt_satU _ (by omega), narrow_lower wordAt _ _ hj, narrow_upper wordAt _ _ hj]
    exact ⟨rfl, rfl⟩

end Sys2Proof.Machine
end

section
/-! SUPPORT. The media byte extractions and interleavings (45 R587 to R593, R615 to R620), the packed multiplies (R594 to R605) and
the lane shifts (R606 to R614): which source a lane of a shuffle comes from, the products and the distances as integers, and the
lane counts as remainders. -/

namespace Sys2Proof.Machine

/-! ### Byte extraction and interleaving (45 R587 to R593, R615 to R620) -/

/-- The pair `Rn : Rm` is the number with Rn above bit 64; dropping `k` bytes is a quotient. -/
theorem extractBytes_eq_ofNat (rm rn : Quad) (k : Nat) :
    extractBytes rm rn k = BitVec.ofNat 64 ((rn.toNat * 2 ^ 64 + rm.toNat) / 2 ^ (8 * k)) := by
  rw [extractBytes, BitVec.extractLsb', BitVec.toNat_append, ← Nat.shiftLeft_add_eq_or_of_lt rm.isLt, Nat.shiftLeft_eq,
    Nat.shiftRight_eq_div_pow]

section
variable {j : Nat}

theorem two_mul_add_one_div_two (j : Nat) : (2 * j + 1) / 2 = j := by omega

theorem interleave_even {α : Type} (f : Quad → Nat → α) (x y : Quad) (j : Nat) :
    f (if 2 * j % 2 = 0 then x else y) (2 * j / 2) = f x j := by
  rw [if_pos (Nat.mul_mod_right 2 j), Nat.mul_div_cancel_left j (by decide)]

theorem interleave_odd {α : Type} (f : Quad → Nat → α) (x y : Quad) (j : Nat) :
    f (if (2 * j + 1) % 2 = 0 then x else y) ((2 * j + 1) / 2) = f y j := by
  rw [if_neg (by omega), two_mul_add_one_div_two]

/-- Bytes interleaved by a shuffle: `f q k` is the `k`-th byte that it takes of `q`. -/
theorem byteAt_interleave (f : Quad → Nat → Byte) (x y : Quad) (hj : j < 4) :
    byteAt (packB fun k => f (if k % 2 = 0 then x else y) (k / 2)) (2 * j) = f x j ∧
      byteAt (packB fun k => f (if k % 2 = 0 then x else y) (k / 2)) (2 * j + 1) = f y j :=
  ⟨(byteAt_packB _ (by omega)).trans (interleave_even f x y j), (byteAt_packB _ (by omega)).trans (interleave_odd f x y j)⟩

theorem wordAt_interleave (f : Quad → Nat → Half) (x y : Quad) (hj : j < 2) :
    wordAt (packW fun k => f (if k % 2 = 0 then x else y) (k / 2)) (2 * j) = f x j ∧
      wordAt (packW fun k => f (if k % 2 = 0 then x else y) (k / 2)) (2 * j + 1) = f y j :=
  ⟨(wordAt_packW _ (by omega)).trans (interleave_even f x y j), (wordAt_packW _ (by omega)).trans (interleave_odd f x y j)⟩

end

/-- Settles O26: the extractions as quotients of the pair, and each interleaved lane by the parity of its position. -/
theorem mediaPackedExtractShuffle : Obligations.MediaPackedExtractShuffle := by
  intro s m n d
  refine ⟨?mextr, ⟨_, putsG_of rfl, ?mshfloB⟩, ⟨_, putsG_of rfl, ?mshfloW⟩, ⟨_, putsG_of rfl, ?mshfloL⟩,
    ⟨_, putsG_of rfl, ?mshfhiB⟩, ⟨_, putsG_of rfl, ?mshfhiW⟩, ⟨_, putsG_of rfl, ?mshfhiL⟩⟩
  case mextr =>
    intro k i hi
    simp only [List.mem_cons, Prod.mk.injEq, List.not_mem_nil, or_false] at hi
    have hexec : exec i s = s.putG d (extractBytes (s.g m) (s.g n) k) := by
      rcases hi with ⟨rfl, rfl⟩ | ⟨rfl, rfl⟩ | ⟨rfl, rfl⟩ | ⟨rfl, rfl⟩ | ⟨rfl, rfl⟩ | ⟨rfl, rfl⟩ | ⟨rfl, rfl⟩ <;> rfl
    exact putsG_of_eq hexec (extractBytes_eq_ofNat _ _ k)
  case mshfloB => exact fun j hj => byteAt_interleave byteAt _ _ hj
  case mshfloW => exact fun j hj => wordAt_interleave wordAt _ _ hj
  case mshfhiB => exact fun j hj => byteAt_interleave (fun q k => byteAt q (k + 4)) _ _ hj
  case mshfhiW => exact fun j hj => wordAt_interleave (fun q k => wordAt q (k + 2)) _ _ hj
  case mshfloL | mshfhiL => exact ⟨longAt_packL _ (by decide), longAt_packL _ (by decide)⟩

/-! ### Multiplies, permutation and distances (45 R594 to R605) -/

theorem mul_eq_ofInt_toInt {w : Nat} (x y : BitVec w) : x * y = BitVec.ofInt w (x.toInt * y.toInt) := by
  rw [BitVec.ofInt_mul, BitVec.ofInt_toInt, BitVec.ofInt_toInt]

theorem quad_add_ofInt (a : Quad) (v : Int) : a + BitVec.ofInt 64 v = BitVec.ofInt 64 (a.toInt + v) := by
  rw [BitVec.ofInt_add, BitVec.ofInt_toInt]

section
variable (x y : Quad) (j : Nat)

theorem fracProduct_eq : fracProduct x y j = satS 32 (2 * wordProduct x y j) := by
  rw [fracProduct, wordProduct, Int.mul_assoc]

/-- The product of two words is within a long: its greatest value is `2 ^ 30` (45 R601, R602). -/
theorem toInt_ofInt_wordProduct : (BitVec.ofInt 32 (wordProduct x y j)).toInt = wordProduct x y j := by
  have hlo : -2 ^ 30 ≤ wordProduct x y j := BitVec.le_toInt_mul_toInt
  have hhi : wordProduct x y j ≤ 2 ^ 30 := BitVec.toInt_mul_toInt_le
  exact BitVec.toInt_ofInt_eq_self (by decide) (by omega) (by omega)

/-- The base-4 digits of Rn select the words (45 R604). -/
theorem permField_toNat : (x.extractLsb' (2 * j) 2).toNat = x.toNat / 4 ^ j % 4 := by
  rw [BitVec.extractLsb'_toNat, Nat.shiftRight_eq_div_pow, Nat.pow_mul]

theorem byteDistance_eq_abs : (byteDistance x y j : Int) = |((byteAt x j).toNat : Int) - (byteAt y j).toNat| :=
  Int.natCast_natAbs _

theorem sum_byteDistance :
    ((byteDistance x y 0 + byteDistance x y 1 + byteDistance x y 2 + byteDistance x y 3 + byteDistance x y 4 +
      byteDistance x y 5 + byteDistance x y 6 + byteDistance x y 7 : Nat) : Int) =
      ((List.range 8).map fun k => |((byteAt x k).toNat : Int) - (byteAt y k).toNat|).sum := by
  simp only [← byteDistance_eq_abs]
  simp [List.range_succ, Int.add_assoc]

end

/-- Settles O27: the model's products are the integers of the statement, and `c` is what saturation leaves. -/
theorem mediaPackedMultiply : Obligations.MediaPackedMultiply := by
  intro s m n d w l c hw hl hc
  obtain rfl : w = wordProduct (s.g m) (s.g n) := funext hw
  obtain rfl : l = longProduct (s.g m) (s.g n) := funext hl
  have hsat (x : Int) : (satS 32 x).toInt = c x := (toInt_satS (by decide) x).trans (hc x).symm
  refine ⟨⟨_, putsG_of rfl, ?mmacfxWl⟩, ⟨_, putsG_of rfl, ?mmacnfxWl⟩, ⟨_, putsG_of rfl, ?mmulW⟩, ⟨_, putsG_of rfl, ?mmulL⟩,
    ⟨_, putsG_of rfl, ?mmulfxW⟩, ⟨_, putsG_of rfl, ?mmulfxL⟩, ⟨_, putsG_of rfl, ?mmulfxrpW⟩, ⟨_, putsG_of rfl, ?mmulhiWl⟩,
    ⟨_, putsG_of rfl, ?mmulloWl⟩, ?mmulsumWq, ⟨_, putsG_of rfl, ?mpermW⟩, ?msadUbq⟩
  case mmacfxWl | mmacnfxWl => intro j hj; rw [longAt_packL _ hj, fracProduct_eq, hsat, hsat]
  case mmulW => exact fun j hj => (wordAt_packW _ hj).trans (mul_eq_ofInt_toInt _ _)
  case mmulL => exact fun j hj => (longAt_packL _ hj).trans (mul_eq_ofInt_toInt _ _)
  case mmulfxW | mmulfxrpW => exact fun j hj => toInt_wordAt_satS _ hj
  case mmulfxL => exact fun j hj => (congrArg _ (longAt_packL _ hj)).trans (hsat _)
  case mmulhiWl | mmulloWl => exact fun j hj => (congrArg _ (longAt_packL _ hj)).trans (toInt_ofInt_wordProduct _ _ _)
  case mmulsumWq => exact putsG_of_eq rfl ((quad_add_ofInt _ _).trans (congrArg _ (by simp only [Int.add_assoc])))
  case mpermW => exact fun j hj => (wordAt_packW _ hj).trans (congrArg _ (permField_toNat _ j))
  case msadUbq =>
    refine putsG_of_eq rfl ?_
    rw [← BitVec.ofInt_natCast, quad_add_ofInt, sum_byteDistance]

/-! ### Lane shifts (45 R606 to R614) -/

theorem countW_eq (v : Quad) : countW v = v.toNat % 16 := by rw [countW, BitVec.extractLsb'_toNat, Nat.shiftRight_zero]

theorem countL_eq (v : Quad) : countL v = v.toNat % 32 := by rw [countL, BitVec.extractLsb'_toNat, Nat.shiftRight_zero]

section
variable {w : Nat} (x : BitVec w) (k : Nat)

theorem lane_shl_eq_ofNat : x <<< k = BitVec.ofNat w (x.toNat * 2 ^ k) := congrArg (BitVec.ofNat w) (Nat.shiftLeft_eq _ _)

theorem toNat_ushiftRight_eq_div : (x >>> k).toNat = x.toNat / 2 ^ k := by
  rw [BitVec.toNat_ushiftRight, Nat.shiftRight_eq_div_pow]

end

/-- Settles O28: each lane's shift as a product or a quotient, by the count that is the same for every lane. -/
theorem mediaPackedShifts : Obligations.MediaPackedShifts := by
  intro s m n d cw cl hcw hcl
  obtain rfl : cw = countW (s.g n) := hcw.trans (countW_eq _).symm
  obtain rfl : cl = countL (s.g n) := hcl.trans (countL_eq _).symm
  refine ⟨⟨_, putsG_of rfl, ?mshaldsW⟩, ⟨_, putsG_of rfl, ?mshaldsL⟩, ⟨_, putsG_of rfl, ?mshardW⟩, ⟨_, putsG_of rfl, ?mshardL⟩,
    ?mshardsQ, ⟨_, putsG_of rfl, ?mshlldW⟩, ⟨_, putsG_of rfl, ?mshlldL⟩, ⟨_, putsG_of rfl, ?mshlrdW⟩,
    ⟨_, putsG_of rfl, ?mshlrdL⟩⟩
  case mshaldsW => exact fun j hj => toInt_wordAt_satS _ hj
  case mshaldsL => exact fun j hj => toInt_longAt_satS _ hj
  case mshardW => exact fun j hj => (congrArg _ (wordAt_packW _ hj)).trans (toInt_sshiftRight_eq_div _ _)
  case mshardL => exact fun j hj => (congrArg _ (longAt_packL _ hj)).trans (toInt_sshiftRight_eq_div _ _)
  case mshardsQ =>
    rw [← count6_eq]
    exact putsG_of_eq rfl (congrArg (BitVec.ofInt 64) (toInt_satS (by decide) _))
  case mshlldW => exact fun j hj => (wordAt_packW _ hj).trans (lane_shl_eq_ofNat _ _)
  case mshlldL => exact fun j hj => (longAt_packL _ hj).trans (lane_shl_eq_ofNat _ _)
  case mshlrdW => exact fun j hj => (congrArg _ (wordAt_packW _ hj)).trans (toNat_ushiftRight_eq_div _ _)
  case mshlrdL => exact fun j hj => (congrArg _ (longAt_packL _ hj)).trans (toNat_ushiftRight_eq_div _ _)

end Sys2Proof.Machine
end

section
/-! SUPPORT. The media loads, stores and swap.q (46 R635 to R654, R663), once for each kind of access, whatever the form of the
address. -/

namespace Sys2Proof.Machine

/-- A register read after it is written; R63 stays 0 (10 R32). -/
theorem State.g_setG_self (s : State) (d : MReg) (v : Quad) : (s.setG d v).g d = if d = 63 then 0 else v := by
  rw [State.g_setG]
  split
  next h => exact (if_neg h.2).symm
  next h =>
    have hd : d = 63 := by simpa using h
    rw [if_pos hd, hd, State.g_63]

theorem State.read64_write64 (s : State) (a v : Quad) : (s.write64 a v).read64 a = v :=
  Memory.read64_write64 s.mem s.endian a v

section
variable {i : Instr} {s : State} {d : MReg} {a : Quad}

/-- A load: a checked read, then one register put. -/
theorem putsG_checkRead {n : Nat} {v : Quad} (he : exec i s = s.checkRead a n (s.putG d v)) (ha : s.readFault a n = none) :
    PutsG i s d v :=
  putsG_of (he.trans (State.checkRead_ok ha))

/-! ### Stores of each size -/

theorem runs_mstore8 {v : Byte} (he : exec i s = s.mstore8 a v) (ha : s.writeFault a 1 = none) :
    Runs i s (s.pc + 4) { mem := bytesFrom a 1 } fun t => t.read8 a = v :=
  runs_retire (he.trans (State.checkWrite_ok ha)) rfl ((Keeps.refl _ s).write8 _ fun _ hx => hx) (State.read8_write8 s a v)

theorem runs_mstore16 {v : Half} (he : exec i s = s.mstore16 a v) (ha : s.writeFault a 2 = none) :
    Runs i s (s.pc + 4) { mem := bytesFrom a 2 } fun t => t.read16 a = v :=
  runs_retire (he.trans (State.checkWrite_ok ha)) rfl ((Keeps.refl _ s).write16 _ fun _ hx => hx) (State.read16_write16 s a v)

theorem runs_mstore32 {v : Word} (he : exec i s = s.mstore32 a v) (ha : s.writeFault a 4 = none) :
    Runs i s (s.pc + 4) { mem := bytesFrom a 4 } fun t => t.read32 a = v :=
  runs_retire (he.trans (State.checkWrite_ok ha)) rfl ((Keeps.refl _ s).write32 _ fun _ hx => hx) (State.read32_write32 s a v)

theorem runs_mstore64 {v : Quad} (he : exec i s = s.mstore64 a v) (ha : s.writeFault a 8 = none) :
    Runs i s (s.pc + 4) { mem := bytesFrom a 8 } fun t => t.read64 a = v :=
  runs_retire (he.trans (State.checkWrite_ok ha)) rfl ((Keeps.refl _ s).write64 _ fun _ hx => hx) (State.read64_write64 s a v)

/-- swap.q puts what it read before it wrote (46 R663). -/
theorem runs_mSwapQ {m n : MReg} (hr : s.readFault (s.eaX m n) 8 = none) (hw : s.writeFault (s.eaX m n) 8 = none) :
    Runs (.mSwapQ m n d) s (s.pc + 4) { gr := [d], mem := bytesFrom (s.eaX m n) 8 } fun t =>
      t.read64 (s.eaX m n) = s.g d ∧ t.g d = if d = 63 then 0 else s.read64 (s.eaX m n) :=
  runs_retire ((State.checkRead_ok hr).trans (State.checkWrite_ok hw)) rfl
    (((Keeps.refl _ s).write64 _ fun _ hx => hx).setG _ (by simp))
    ⟨State.read64_write64 s _ _, (State.g_finish _ _ _).trans (State.g_setG_self _ _ _)⟩

end

/-- Settles O29: each form is the load or the store of its size at the model's address, which is the one the rule gives. -/
theorem mediaLoadsAndStores : Obligations.MediaLoadsAndStores := by
  intro s m n d imm a
  simp only [ofInt_eq_sx64 imm, ofInt_mul_two, ofInt_mul_four, ofInt_mul_eight, BitVec.ofNat_toNat,
    ← BitVec.setWidth_eq_extractLsb' (by decide : 8 ≤ 64), ← BitVec.setWidth_eq_extractLsb' (by decide : 16 ≤ 64),
    ← BitVec.setWidth_eq_extractLsb' (by decide : 32 ≤ 64)]
  refine ⟨?ldB, ?ldW, ?ldL, ?ldQ, ?ldx, ?stB, ?stW, ?stL, ?stQ, ?indexed⟩
  case ldB => rintro rfl ha; exact ⟨putsG_checkRead rfl ha, putsG_checkRead rfl ha⟩
  case ldW => rintro rfl ha; exact ⟨putsG_checkRead rfl ha, putsG_checkRead rfl ha⟩
  case ldL => rintro rfl; exact putsG_checkRead rfl
  case ldQ => rintro rfl; exact putsG_checkRead rfl
  case ldx =>
    rintro rfl
    exact ⟨fun ha => ⟨putsG_checkRead rfl ha, putsG_checkRead rfl ha⟩,
      fun ha => ⟨putsG_checkRead rfl ha, putsG_checkRead rfl ha⟩, putsG_checkRead rfl, putsG_checkRead rfl⟩
  case stB => rintro rfl; exact runs_mstore8 rfl
  case stW => rintro rfl; exact runs_mstore16 rfl
  case stL => rintro rfl; exact runs_mstore32 rfl
  case stQ => rintro rfl; exact runs_mstore64 rfl
  case indexed =>
    rintro rfl
    exact ⟨runs_mstore8 rfl, runs_mstore16 rfl, runs_mstore32 rfl, runs_mstore64 rfl, runs_mSwapQ⟩

end Sys2Proof.Machine
end

section
/-! SUPPORT. The misaligned high and low loads and stores (46 R655 to R662): which byte of the block each plan takes for which
position of the value, and what the bytes of a plan put together or stored are. -/

namespace Sys2Proof.Machine

/-! ### The bytes of a plan put together (46 R655) -/

theorem byteAt_or (v w : Quad) (j : Nat) : byteAt (v ||| w) j = byteAt v j ||| byteAt w j := BitVec.extractLsb'_or

/-- A byte moved to position `p` is byte `p`, and the other bytes are 0. -/
theorem byteAt_shl (b : Byte) {j : Nat} (hj : j < 8) (p : Nat) :
    byteAt (b.setWidth 64 <<< (8 * p)) j = if p = j then b else 0 := by
  apply BitVec.eq_of_getLsbD_eq
  intro k hk
  have hin : 8 * j + k < 64 := by omega
  simp only [byteAt, BitVec.getLsbD_extractLsb', BitVec.getLsbD_shiftLeft, BitVec.getLsbD_setWidth, hk, hin, decide_true,
    Bool.true_and]
  split
  next h =>
    have hk64 : k < 64 := by omega
    simp [h, hk64]
  next h =>
    obtain hlow | hhigh : 8 * j + k < 8 * p ∨ 8 ≤ 8 * j + k - 8 * p := by omega
    · simp [hlow]
    · simp [BitVec.getLsbD_of_ge b _ hhigh]

theorem State.gather_concat (s : State) (plan : List (Quad × Nat)) (p : Quad × Nat) :
    s.gather (plan ++ [p]) = s.gather plan ||| (s.read8 p.1).setWidth 64 <<< (8 * p.2) := by
  rw [State.gather, List.foldl_concat]; rfl

/-- Byte `j` of the value put together, where every byte taken for position `j` is `b`. -/
theorem State.byteAt_gather (s : State) {plan : List (Quad × Nat)} {j : Nat} {b : Byte} (hj : j < 8)
    (h : ∀ p ∈ plan, p.2 = j → s.read8 p.1 = b) : byteAt (s.gather plan) j = if j ∈ plan.map Prod.snd then b else 0 := by
  induction plan using List.reverseRecOn with
  | nil => exact BitVec.extractLsb'_zero
  | append_singleton plan p ih =>
    rw [List.forall_mem_append, List.forall_mem_singleton] at h
    obtain ⟨hplan, hp⟩ := h
    rw [State.gather_concat, byteAt_or, ih hplan, byteAt_shl _ hj]
    by_cases hpj : p.2 = j
    · by_cases hmem : j ∈ plan.map Prod.snd <;> simp [hpj, hp hpj, hmem]
    · simp [hpj, Ne.symm hpj]

/-! ### The bytes of a plan stored (46 R659) -/

theorem State.scatter_concat (s : State) (plan : List (Quad × Nat)) (p : Quad × Nat) (v : Quad) :
    s.scatter (plan ++ [p]) v = (s.scatter plan v).write8 p.1 (byteAt v p.2) := by
  rw [State.scatter, List.foldl_concat]; rfl

/-- The byte stored at an address that the plan names, where every byte taken for that address is `b`. -/
theorem State.read8_scatter (s : State) {plan : List (Quad × Nat)} {x v : Quad} {b : Byte} (hx : x ∈ plan.map Prod.fst)
    (h : ∀ p ∈ plan, p.1 = x → byteAt v p.2 = b) : (s.scatter plan v).read8 x = b := by
  induction plan using List.reverseRecOn with
  | nil => cases hx
  | append_singleton plan p ih =>
    rw [List.forall_mem_append, List.forall_mem_singleton] at h
    obtain ⟨hplan, hp⟩ := h
    rw [State.scatter_concat, State.read8, State.write8, Memory.read8_write8]
    split
    next hpx => exact hp hpx.symm
    next hpx => exact ih (by simpa [hpx] using hx) hplan

@[simp] theorem State.scatter_pc (s : State) (plan : List (Quad × Nat)) (v : Quad) : (s.scatter plan v).pc = s.pc := by
  induction plan using List.reverseRecOn with
  | nil => rfl
  | append_singleton plan p ih => rw [State.scatter_concat, State.write8_pc, ih]

theorem Keeps.scatter {p : Parts} {s t : State} (h : Keeps p s t) {plan : List (Quad × Nat)} (v : Quad)
    (hplan : ∀ x ∈ plan.map Prod.fst, x ∈ p.mem) : Keeps p s (t.scatter plan v) := by
  induction plan using List.reverseRecOn with
  | nil => exact h
  | append_singleton plan e ih =>
    rw [List.map_append, List.forall_mem_append] at hplan
    obtain ⟨hplan, he⟩ := hplan
    rw [State.scatter_concat]
    exact (ih hplan).write8 _ (by simpa [bytesFrom] using he)

/-! ### The plans over the aligned block (46 R655, R659) -/

section
variable {up : Bool} {a x : Quad} {n q r : Nat}

theorem mem_blockPart : x ∈ blockPart up a n ↔ ∃ q < blockCount up a n, blockAddr up a q = x := by
  simp only [blockPart, List.mem_map, List.mem_range]

theorem blockCount_le (hn : 0 < n) : blockCount up a n ≤ n := by
  have hmod := Nat.mod_lt a.toNat hn
  unfold blockCount
  split <;> omega

/-- Different distances below the size of the address space are different addresses. -/
theorem blockAddr_inj (hq : q < 2 ^ 64) (hr : r < 2 ^ 64) (h : blockAddr up a r = blockAddr up a q) : r = q := by
  have hoff : BitVec.ofNat 64 r = BitVec.ofNat 64 q := by
    cases up with
    | true => exact add_left_cancel h
    | false => exact sub_right_injective h
  have hmod := congrArg BitVec.toNat hoff
  rwa [BitVec.toNat_ofNat, BitVec.toNat_ofNat, Nat.mod_eq_of_lt hr, Nat.mod_eq_of_lt hq] at hmod

end

/-- The plan takes the bytes of the aligned block at `a` and above, or at `a` and below, the one at distance `q` for position
`pos q` of the value. -/
def CoversBlock (plan : List (Quad × Nat)) (up : Bool) (a : Quad) (n : Nat) (pos : Nat → Nat) : Prop :=
  ∀ p, p ∈ plan ↔ ∃ q < blockCount up a n, p = (blockAddr up a q, pos q)

theorem coversBlock_up (a : Quad) (n : Nat) (pos : Nat → Nat) :
    CoversBlock ((List.range (n - a.toNat % n)).map fun i => (a + BitVec.ofNat 64 i, pos i)) true a n pos := fun p => by
  simp [blockCount, blockAddr, eq_comm]

/-- Downwards the plan starts at the far end: its `i`-th byte is at distance `a mod n - i`. -/
theorem coversBlock_down (a : Quad) {n : Nat} {pos f : Nat → Nat} (hf : ∀ i ≤ a.toNat % n, f i = pos (a.toNat % n - i)) :
    CoversBlock ((List.range (a.toNat % n + 1)).map fun i =>
      (a - BitVec.ofNat 64 (a.toNat % n) + BitVec.ofNat 64 i, f i)) false a n pos := fun p => by
  have hentry : ∀ i ≤ a.toNat % n, (a - BitVec.ofNat 64 (a.toNat % n) + BitVec.ofNat 64 i, f i) =
      (blockAddr false a (a.toNat % n - i), pos (a.toNat % n - i)) := fun i hi => by
    rw [sub_offset_add a hi, hf i hi]; rfl
  simp only [List.mem_map, List.mem_range]
  constructor
  · rintro ⟨i, hi, rfl⟩
    exact ⟨a.toNat % n - i, Nat.lt_succ_of_le (Nat.sub_le _ _), hentry i (Nat.le_of_lt_succ hi)⟩
  · rintro ⟨q, hq, rfl⟩
    have hq : q ≤ a.toNat % n := Nat.le_of_lt_succ hq
    refine ⟨a.toNat % n - q, Nat.lt_succ_of_le (Nat.sub_le _ _), ?_⟩
    rw [hentry _ (Nat.sub_le _ _), Nat.sub_sub_self hq]

theorem loPlan_coversBlock (e : Endian) (a : Quad) (n : Nat) :
    CoversBlock (loPlan e a n) (e == .little) a n fun q => q := by
  cases e with
  | big => exact coversBlock_down a fun _ _ => rfl
  | little => exact coversBlock_up a n _

theorem hiPlan_coversBlock (e : Endian) (a : Quad) {n : Nat} (hn : 0 < n) :
    CoversBlock (hiPlan e a n) (e == .big) a n fun q => n - 1 - q := by
  have hmod := Nat.mod_lt a.toNat hn
  cases e with
  | big => exact coversBlock_up a n _
  | little => exact coversBlock_down a fun i hi => by omega

section
variable {i : Instr} {s : State} {plan : List (Quad × Nat)} {up : Bool} {a : Quad} {n : Nat} {pos : Nat → Nat}

theorem CoversBlock.mem_addresses (h : CoversBlock plan up a n pos) {x : Quad} :
    x ∈ plan.map Prod.fst ↔ x ∈ blockPart up a n := by
  simp [h _, mem_blockPart, eq_comm]

/-- The byte at distance `q`, where no other distance has its position. -/
theorem CoversBlock.byteAt_gather (h : CoversBlock plan up a n pos) {q : Nat} (hq : pos q < 8)
    (hpos : ∀ r < blockCount up a n, pos r = pos q → r = q) :
    byteAt (s.gather plan) (pos q) = if q < blockCount up a n then s.read8 (blockAddr up a q) else 0 := by
  have hsame : ∀ p ∈ plan, p.2 = pos q → s.read8 p.1 = s.read8 (blockAddr up a q) := fun p hp hpq => by
    obtain ⟨r, hr, rfl⟩ := (h p).1 hp
    rw [hpos r hr hpq]
  have hmem : pos q ∈ plan.map Prod.snd ↔ q < blockCount up a n := by
    simp only [List.mem_map, h _]
    constructor
    · rintro ⟨_, ⟨r, hr, rfl⟩, hrq⟩
      exact hpos r hr hrq ▸ hr
    · exact fun hlt => ⟨_, ⟨q, hlt, rfl⟩, rfl⟩
  simp only [s.byteAt_gather hq hsame, hmem]

theorem CoversBlock.read8_scatter (h : CoversBlock plan up a n pos) (v : Quad) {q : Nat} (hq : q < blockCount up a n)
    (hsize : blockCount up a n ≤ 2 ^ 64) : (s.scatter plan v).read8 (blockAddr up a q) = byteAt v (pos q) := by
  refine State.read8_scatter s (h.mem_addresses.2 (mem_blockPart.2 ⟨q, hq, rfl⟩)) fun p hp hpq => ?_
  obtain ⟨r, hr, rfl⟩ := (h p).1 hp
  rw [blockAddr_inj (by omega) (by omega) hpq]

/-! ### The loads and the stores of a block (46 R655 to R662) -/

theorem State.checkWrites_ok {l : List Quad} {k : Result} (h : ∀ x ∈ l, s.writeFault x 1 = none) : s.checkWrites l k = k := by
  induction l with
  | nil => rfl
  | cons x l ih =>
    rw [List.forall_mem_cons] at h
    exact (State.checkWrite_ok h.1).trans (ih h.2)

/-- A load that puts `f` of the value put together; `k` is the number of distances that it is stated for. -/
theorem exists_putsG_loadPlan {d : MReg} {f : Quad → Quad} {k : Nat}
    (he : exec i s = s.loadPlan plan fun v => s.putG d (f v)) (h : CoversBlock plan up a n pos)
    (hpos : ∀ q < k, pos q < 8 ∧ ∀ r < blockCount up a n, pos r = pos q → r = q)
    (hread : ∀ x ∈ blockPart up a n, canRead s.params x = true) :
    ∃ v : Quad, (∀ q, q < k → byteAt v (pos q) = if q < blockCount up a n then s.read8 (blockAddr up a q) else 0) ∧
      PutsG i s d (f v) :=
  have hok : ∀ x ∈ plan.map Prod.fst, s.readFault x 1 = none := fun x hx =>
    accessFault_one_eq_none.2 (hread x (h.mem_addresses.1 hx))
  ⟨s.gather plan, fun q hq => h.byteAt_gather (hpos q hq).1 (hpos q hq).2, putsG_of (he.trans (State.checkReads_ok hok))⟩

theorem runs_storePlan {v : Quad} (he : exec i s = s.storePlan plan v) (h : CoversBlock plan up a n pos)
    (hsize : blockCount up a n ≤ 2 ^ 64) (hwrite : ∀ x ∈ blockPart up a n, canWrite s.params x = true) :
    Runs i s (s.pc + 4) { mem := blockPart up a n }
      fun t => ∀ q, q < blockCount up a n → t.read8 (blockAddr up a q) = byteAt v (pos q) :=
  have hok : ∀ x ∈ plan.map Prod.fst, s.writeFault x 1 = none := fun x hx =>
    accessFault_one_eq_none.2 (hwrite x (h.mem_addresses.1 hx))
  runs_retire (he.trans (State.checkWrites_ok hok)) (State.scatter_pc s plan v)
    ((Keeps.refl _ s).scatter v fun _ hx => h.mem_addresses.1 hx) fun _ hq => h.read8_scatter v hq hsize

end

/-- Settles O30: the low plans take the byte at distance `q` for position `q`, the high plans for position `N - 1 - q`. -/
theorem mediaMisalignedPairs : Obligations.MediaMisalignedPairs := by
  intro s m d imm a up ha
  rw [ofInt_eq_sx64] at ha
  subst ha
  have hcount4 : blockCount up (s.g m + sx64 imm 0) 4 ≤ 4 := blockCount_le (by decide)
  have hcount8 : blockCount up (s.g m + sx64 imm 0) 8 ≤ 8 := blockCount_le (by decide)
  refine ⟨fun hup => ?low, fun hup => ?high⟩ <;> subst hup
  case low =>
    have hl := loPlan_coversBlock s.endian (s.eaM m (sx64 imm 0)) 4
    have hq := loPlan_coversBlock s.endian (s.eaM m (sx64 imm 0)) 8
    exact ⟨exists_putsG_loadPlan rfl hl fun q h => ⟨h, fun _ _ he => he⟩,
      exists_putsG_loadPlan rfl hq fun q h => ⟨h, fun _ _ he => he⟩,
      runs_storePlan rfl hl (by omega), runs_storePlan rfl hq (by omega)⟩
  case high =>
    have hl := hiPlan_coversBlock s.endian (s.eaM m (sx64 imm 0)) (n := 4) (by decide)
    have hq := hiPlan_coversBlock s.endian (s.eaM m (sx64 imm 0)) (n := 8) (by decide)
    exact ⟨exists_putsG_loadPlan rfl hl fun q h => ⟨by omega, fun r hr he => by omega⟩,
      exists_putsG_loadPlan rfl hq fun q h => ⟨by omega, fun r hr he => by omega⟩,
      runs_storePlan rfl hl (by omega), runs_storePlan rfl hq (by omega)⟩

end Sys2Proof.Machine
end

section
/-! SUPPORT. The media branches (47 R681, R688 to R696): a tagged transfer as the rules write it, and the two ways in which a
conditional branch ends. -/

namespace Sys2Proof.Machine

/-! ### The tagged transfer and the tagged link (10 R42) -/

/-- `SetPCTagged` clears bit 0 of the address: bits 63:1 stay, and a 0 takes the place of the tag. -/
theorem State.setPCTagged_pc (s : State) (v : Quad) : (s.setPCTagged v).pc = v &&& ~~~1#64 := by
  have hv : v.extractLsb' 1 63 ++ v.extractLsb' 0 1 = v := BitVec.extractLsb'_append_extractLsb'
  have hmask : ~~~1#64 = BitVec.allOnes 63 ++ 0#1 := by decide
  calc v.extractLsb' 1 63 ++ 0#1
      = (v.extractLsb' 1 63 &&& BitVec.allOnes 63) ++ (v.extractLsb' 0 1 &&& 0#1) := by
        rw [BitVec.and_allOnes, BitVec.and_zero]
    _ = (v.extractLsb' 1 63 ++ v.extractLsb' 0 1) &&& (BitVec.allOnes 63 ++ 0#1) := BitVec.and_append.symm
    _ = v &&& ~~~1#64 := by rw [hv, ← hmask]

/-- A tag of 1 adds 1 to the even address. -/
theorem append_one_eq_add_one (x : BitVec 63) : (x ++ 1#1 : Quad) = x ++ 0#1 + 1#64 :=
  BitVec.append_zero_add_zero_append.symm

/-- The link of blink is past the branch, with the mode as its bit 0 (47 R688). -/
theorem State.taggedPC_add_four (s : State) :
    s.taggedPC + 4 = (s.pc &&& ~~~1#64) + (if s.ism = .media then 5 else 4) := by
  rw [← s.setPCTagged_pc s.pc, State.taggedPC, tagPc]
  cases s.ism with
  | compact => rfl
  | media => exact (congrArg (· + 4#64) (append_one_eq_add_one _)).trans (BitVec.add_assoc _ 1#64 4#64)

/-- A sign-extended field is the register's value exactly when both are the same integer (30 R119). -/
theorem eq_sx64_iff_toInt_eq {k : Nat} (hk : k ≤ 64) {v : Quad} {imm : BitVec k} : v = sx64 imm 0 ↔ v.toInt = imm.toInt := by
  rw [← BitVec.toInt_inj, sx64, BitVec.shiftLeft_zero, BitVec.toInt_signExtend_of_le hk]

/-! ### How a media branch ends -/

section
variable {i : Instr} {s u : State} {v : Quad} {p : Parts} {ok : State → Prop}

/-- A taken media branch, where `u` keeps all but the parts of `p`. -/
theorem runs_transfer (he : exec i s = (u.setPCTagged v).complete) (hk : Keeps p s u) (hp : p.ism = true)
    (hok : ok ((u.setPCTagged v).finish (v &&& ~~~1#64))) : Runs i s (v &&& ~~~1#64) p ok :=
  runs_of (by rw [he, ← u.setPCTagged_pc v]; rfl) (hk.setPCTagged v hp) hok

/-- A conditional branch transfers to its target exactly when its condition holds (47 R681). -/
theorem runs_branchTr {b : Bool} {a : TReg} {c : Prop} (he : exec i s = s.branchTr b a) (hc : c ↔ b = true) :
    (c → Runs i s (s.t a &&& ~~~1#64) { ism := true }
      (fun t => t.ism = if (s.t a).getLsbD 0 then .media else .compact)) ∧
    (¬c → Runs i s (s.pc + 4) {} (fun _ => True)) :=
  ⟨fun h => runs_transfer (he.trans (if_pos (hc.1 h))) (Keeps.refl _ s) rfl rfl,
    fun h => onlyAdvances_of (he.trans (if_neg (mt hc.2 h)))⟩

end

/-- Settles O24: blink is a link and a tagged transfer; each conditional branch tests the rule's condition, as the comparison of
integers that the statement names. -/
theorem mediaBranches : Obligations.MediaBranches := by
  intro s m n d imm l a
  refine ⟨?blink, ?conditional⟩
  case blink =>
    have hlink := (s.g_setG_self d (s.taggedPC + 4)).trans (congrArg (ite (d = 63) 0) s.taggedPC_add_four)
    exact runs_transfer rfl ((Keeps.refl _ s).setG _ (by simp)) rfl ⟨rfl, hlink⟩
  case conditional =>
    rintro i c (⟨rfl, hc⟩ | ⟨rfl, hc⟩ | ⟨rfl, hc⟩ | ⟨rfl, hc⟩ | ⟨rfl, hc⟩ | ⟨rfl, hc⟩ | ⟨rfl, hc⟩ | ⟨rfl, hc⟩)
    · exact runs_branchTr rfl (hc.trans beq_iff_eq.symm)
    · exact runs_branchTr rfl (hc.trans bne_iff_ne.symm)
    · exact runs_branchTr rfl (hc.trans BitVec.sle_iff_toInt_le.symm)
    · exact runs_branchTr rfl (hc.trans BitVec.slt_iff_toInt_lt.symm)
    · exact runs_branchTr rfl (hc.trans BitVec.ule_iff_toNat_le.symm)
    · exact runs_branchTr rfl (hc.trans BitVec.ult_iff_toNat_lt.symm)
    · exact runs_branchTr rfl (hc.trans ((eq_sx64_iff_toInt_eq (by decide)).symm.trans beq_iff_eq.symm))
    · exact runs_branchTr rfl (hc.trans ((eq_sx64_iff_toInt_eq (by decide)).not.symm.trans bne_iff_ne.symm))

end Sys2Proof.Machine
end

section
/-! SUPPORT. One step put together (49 R820, R826, 70 R902): what the record and the commit make of the state that an instruction
answers, and which encoding a fetched instruction belongs to. -/

namespace Sys2Proof.Machine

/-- What a step makes of the state that an instruction answers: one that completed normally has its writes recorded, and in a
delay slot the branch committed. -/
def State.stepped (s : State) (i : Instr) (t : State) : State :=
  if t.dstate = .fetching then (if s.pending.isSome then (s.recordWrites i t).commitPending else s.recordWrites i t) else t

section
variable {s t : State} {c : Code} {i : Instr}

theorem settle_record (s : State) (i : Instr) (t : State) :
    settle s.pending.isSome (s.record i (.next t)) = .next (s.stepped i t) := by
  by_cases hd : t.dstate = .fetching
  · cases hp : s.pending.isSome <;> simp [settle, State.record, State.stepped, hd, hp]
  · simp [settle, State.record, State.stepped, hd]

theorem State.stepped_of_ne (hd : t.dstate ≠ .fetching) : s.stepped i t = t := if_neg hd

theorem State.stepped_none (hp : s.pending = none) :
    s.stepped i t = if t.dstate = .fetching then s.recordWrites i t else t := by
  rw [State.stepped, hp]; rfl

theorem State.stepped_slot (hp : s.pending ≠ none) :
    s.stepped i t = if t.dstate = .fetching then (s.recordWrites i t).commitPending else t := by
  obtain ⟨p, hp⟩ := Option.ne_none_iff_exists'.mp hp
  rw [State.stepped, hp]; rfl

/-- The step of decoded code that no check stops, from what the instruction answers. -/
theorem step_of_exec (he : s.entryUnwritten = false) (hf : s.fetch = .ok c) (hd : decodeCode s.params.ext c = .ok i)
    (hs : (s.pending.isSome && slotIllegal i) = false) (hr : s.readsUnwritten i = false)
    (hx : exec i { s with dstate := .executing } = .next t) : step s = .next (s.stepped i t) := by
  rw [step_decoded he hf hd hs hr, hx, settle_record]

/-- The ways a step can go, with the state that the decoded instruction answers named (49 R820, 70 R902). -/
theorem step_outcome {P : State → Prop} (hentry : s.entryUnwritten = true → Answers P s.refuseEntry)
    (hfetch : ∀ a, Answers P (s.memoryFault a))
    (hinvalid : Answers P s.invalid) (hrefuse : Answers P (s.refuse .unwritten))
    (hexec : ∀ c i, s.fetch = .ok c → decodeCode s.params.ext c = .ok i →
      (s.pending.isSome && slotIllegal i) = false →
      Answers (fun t => P (s.stepped i t)) (exec i { s with dstate := .executing })) :
    Answers P (step s) := by
  unfold step
  split
  next he => exact hentry he
  split
  · exact hfetch _
  next c hc =>
    split
    · exact hinvalid
    next i hi =>
      split
      · exact hinvalid
      next hslot =>
        split
        · exact hrefuse
        · obtain ⟨t, ht, hP⟩ := hexec c i hc hi (Bool.eq_false_iff.2 hslot)
          exact ⟨_, by rw [ht, settle_record], hP⟩

/-- The code fetched belongs to the current mode (20 R92, R93). -/
theorem State.codeIsm_fetch (h : s.fetch = .ok c) : codeIsm c = s.ism := by
  unfold State.fetch at h
  split at h
  next hm =>
    unfold State.fetchMedia at h
    split at h
    · cases h
    · split at h <;> cases h
      exact hm.symm
  next hm =>
    unfold State.fetchCompact at h
    split at h
    · cases h
    · split at h
      · split at h <;> cases h
        exact hm.symm
      · cases h
        exact hm.symm

/-- A fetched instruction is one of the encoding of the current mode. -/
theorem codeIsm_encode_of_fetch (hf : s.fetch = .ok c) (hd : decodeCode s.params.ext c = .ok i) :
    codeIsm (encode i) = s.ism := by
  rw [(encodeOfDecode _ _ _ hd).1, State.codeIsm_fetch hf]

end

/-- Settles O36: the step of decoded code, which the record and the commit leave as it is under `RESET_STATE = zero`. -/
theorem stepRunsDecodedInstruction : Obligations.StepRunsDecodedInstruction := by
  intro s c i hf hd
  refine ⟨fun he hr t ht => ⟨fun hp => ?next, fun hp hs => ?slot⟩, fun hz => ⟨?entry, ?reads, ?record, fun hp => ?zero⟩⟩
  case next => rw [step_of_exec he hf hd (by simp [hp]) hr ht, State.stepped_none hp]
  case slot => rw [step_of_exec he hf hd (by simp [hs]) hr ht, State.stepped_slot hp]
  case entry => exact State.entryUnwritten_zero hz
  case reads => exact State.readsUnwritten_zero hz i
  case record => exact State.recordWrites_zero hz i
  case zero =>
    rw [step_decoded (State.entryUnwritten_zero hz) hf hd (by simp [hp]) (State.readsUnwritten_zero hz i),
      State.record_zero hz, hp]
    exact settle_false _

/-- Settles O37: each line is the branch of the step at which the code is found unusable. -/
theorem stepReportsUnusableCode : Obligations.StepReportsUnusableCode := by
  intro s c i a r he
  refine ⟨fun hf => ?fault, fun hf => ?code⟩
  case fault =>
    simp only [step, he, hf]
    rfl
  case code =>
    rintro (hd | ⟨hd, hp, hs⟩)
    · simp only [step, he, hf, hd]
      rfl
    · have hslot : (s.pending.isSome && slotIllegal i) = true := by simp [Option.isSome_iff_ne_none, hp, hs]
      simp only [step, he, hf, hd, hslot, if_true]
      rfl

end Sys2Proof.Machine
end

section
/-! SUPPORT. What the meaning of an instruction touches: every bit of a register that it changes is one that `access` says it writes
(70 R902), only the slot-illegal instructions record a branch (49 R828), and only the media branches change the mode (60 R861). -/

namespace Sys2Proof.Machine

/-! ### The physical storage read register by register -/

/-- The value of a register of the physical storage. PC and ISM, and CR[0], which is SR, are left out. -/
def State.stored (s : State) : Store → Quad
  | .gr i => s.g i
  | .sr => zext64 s.sr
  | .cr k => if k = 0 then 0 else s.c k
  | .tr a => s.t a
  | .fr i => zext64 (s.f i)
  | .fpscr => zext64 s.fpscr
  | .vbr => zext64 s.vbr
  | .gbr => zext64 s.gbr
  | .mach => zext64 s.mach
  | .macl => zext64 s.macl
  | .pr => zext64 s.pr
  | .fpul => zext64 s.fpul
  | .pc => 0
  | .ism => 0

/-- The bits in which two states differ are bits of `x`. -/
def ChangesOnly (x : StoreBits) (u v : State) : Prop :=
  ∀ r b, (v.stored r).getLsbD b ≠ (u.stored r).getLsbD b → r = x.reg ∧ x.mask.getLsbD b = true

/-- Registers that differ in one place, and there only in the bits of a mask. -/
theorem ChangesOnly.of_eq {x : StoreBits} {u v : State} (hne : ∀ r, r ≠ x.reg → v.stored r = u.stored r)
    (hbit : ∀ b, x.mask.getLsbD b = false → (v.stored x.reg).getLsbD b = (u.stored x.reg).getLsbD b) :
    ChangesOnly x u v := by
  intro r b hb
  by_cases hr : r = x.reg
  · refine ⟨hr, ?_⟩
    by_contra hm
    exact hb (hr ▸ hbit b (Bool.eq_false_iff.2 hm))
  · exact absurd (congrArg (·.getLsbD b) (hne r hr)) hb

/-- A change of a whole 64-bit register. -/
theorem ChangesOnly.quad {r : Store} {u v : State} (hne : ∀ q, q ≠ r → v.stored q = u.stored q) :
    ChangesOnly ⟨r, bits 63 0⟩ u v :=
  .of_eq hne fun b hb => by
    have h64 : 64 ≤ b := by
      by_contra hlt
      exact Bool.eq_false_iff.1 hb ((getLsbD_bits 63 0 b).2 (by omega))
    rw [BitVec.getLsbD_of_ge _ _ h64, BitVec.getLsbD_of_ge _ _ h64]

theorem getLsbD_zext64_of_ge (v : Word) {b : Nat} (hb : 32 ≤ b) : (zext64 v).getLsbD b = false := by
  rw [zext64, BitVec.getLsbD_setWidth, BitVec.getLsbD_of_ge v b hb, Bool.and_false]

/-- A change of a 32-bit register in the bits `hi:lo`. -/
theorem ChangesOnly.word {r : Store} {u v : State} {x y : Word} {hi lo : Nat} (hne : ∀ q, q ≠ r → v.stored q = u.stored q)
    (hv : v.stored r = zext64 y) (hu : u.stored r = zext64 x)
    (hbit : ∀ b, b < 32 → ¬(lo ≤ b ∧ b ≤ hi) → y.getLsbD b = x.getLsbD b) : ChangesOnly ⟨r, bits hi lo⟩ u v :=
  .of_eq hne fun b hb => by
    show (v.stored r).getLsbD b = (u.stored r).getLsbD b
    rw [hv, hu]
    by_cases h32 : b < 32
    · have hout : ¬(lo ≤ b ∧ b ≤ hi) := fun h =>
        Bool.eq_false_iff.1 hb ((getLsbD_bits hi lo b).2 ⟨h.1, h.2, by omega⟩)
      rw [zext64, zext64, BitVec.getLsbD_setWidth, BitVec.getLsbD_setWidth, hbit b h32 hout]
    · rw [getLsbD_zext64_of_ge _ (by omega), getLsbD_zext64_of_ge _ (by omega)]

/-- A change of a whole 32-bit register. -/
theorem ChangesOnly.wholeWord {r : Store} {u v : State} {x y : Word} (hne : ∀ q, q ≠ r → v.stored q = u.stored q)
    (hv : v.stored r = zext64 y) (hu : u.stored r = zext64 x) : ChangesOnly ⟨r, bits 31 0⟩ u v :=
  .word hne hv hu fun b hb hout => absurd ⟨Nat.zero_le b, Nat.le_of_lt_succ hb⟩ hout

/-! ### What each update changes -/

section
variable (u : State)

theorem stored_setG_ne (d : MReg) (v : Quad) {q : Store} (hq : q ≠ .gr d) : (u.setG d v).stored q = u.stored q := by
  cases q with
  | gr i =>
    have hi : i ≠ d := fun h => hq (h ▸ rfl)
    exact (State.g_setG u d i v).trans (if_neg fun h => hi h.1)
  | _ => rfl

theorem changes_setG (d : MReg) (v : Quad) : ChangesOnly (gpr d) u (u.setG d v) := .quad fun _ => stored_setG_ne u d v

theorem changes_setTr (a : TReg) (v : Quad) : ChangesOnly (target a) u (u.setTr a v) :=
  .quad fun q hq => by
    cases q with
    | tr b => exact (State.t_setTr u a b v).trans (if_neg fun h : b = a => hq (h ▸ rfl))
    | _ => rfl

theorem changes_setF (i : MReg) (v : Word) : ChangesOnly (single i) u (u.setF i v) :=
  .wholeWord (fun q hq => by
    cases q with
    | fr j => exact congrArg zext64 ((State.f_setF u i j v).trans (if_neg fun h : j = i => hq (h ▸ rfl)))
    | _ => rfl) rfl rfl

theorem changes_sr (v : Word) : ChangesOnly srBits u { u with sr := v } :=
  .wholeWord (fun q hq => by
    cases q with
    | sr => exact absurd rfl hq
    | cr k =>
      show (if k = 0 then (0 : Quad) else _) = if k = 0 then 0 else _
      split
      · rfl
      next hk => simp only [State.c, if_neg hk]
    | _ => rfl) rfl rfl

theorem changes_setC (k : MReg) (v : Quad) : ChangesOnly (control k) u (u.setC k v) := by
  by_cases hk : k = 0
  · subst hk
    exact changes_sr u (low32 v)
  · rw [control, if_neg hk]
    refine .quad fun q hq => ?_
    have hc (j : MReg) (hj : j ≠ k) : (u.setC k v).c j = u.c j := (State.c_setC u k j v).trans (if_neg hj)
    rw [State.setC, if_neg hk] at hc ⊢
    cases q with
    | cr j =>
      show (if j = 0 then (0 : Quad) else _) = if j = 0 then 0 else _
      rw [hc j fun h => hq (h ▸ rfl)]
    | _ => rfl

theorem changes_setBit {i : Nat} (hi : i < 32) (b : Bool) :
    ChangesOnly ⟨.sr, bits i i⟩ u { u with sr := setBit u.sr i b } :=
  .word (fun q hq => by
    cases q with
    | sr => exact absurd rfl hq
    | cr k =>
      show (if k = 0 then (0 : Quad) else _) = if k = 0 then 0 else _
      split
      · rfl
      next hk => simp only [State.c, if_neg hk]
    | _ => rfl) rfl rfl fun j _ hout => by
      rw [getLsbD_setBit _ _ _ _ hi, if_neg]
      omega

theorem changes_setFpscr (v : Word) : ChangesOnly fpscrBits u (u.setFpscr v) :=
  .wholeWord (fun q hq => by
    cases q with
    | fpscr => exact absurd rfl hq
    | _ => rfl) rfl rfl

theorem changes_toggle {i : Nat} (hi : i < 32) {m : Word} (hm : m = BitVec.twoPow 32 i) :
    ChangesOnly ⟨.fpscr, bits i i⟩ u { u with fpscr := u.fpscr ^^^ m } :=
  .word (fun q hq => by
    cases q with
    | fpscr => exact absurd rfl hq
    | _ => rfl) rfl rfl fun j _ hout => by
      rw [hm, getLsbD_xor_twoPow _ hi, if_neg]
      omega

theorem changes_setVbr (v : Word) : ChangesOnly vbrBits u (u.setVbr v) :=
  .wholeWord (fun q hq => by
    cases q with
    | vbr => exact absurd rfl hq
    | _ => rfl) rfl rfl

/-! Where a special register is kept is a case of the parameters (10 R38, R51), for the bits named and for the update alike. -/

theorem changes_setGbr (v : Word) : ChangesOnly u.gbrOut u (u.setGbr v) := by
  rw [State.gbrOut, State.setGbr]
  cases u.params.storage with
  | aliased => exact changes_setG u _ _
  | separate =>
    exact .wholeWord (fun q hq => by
      cases q with
      | gbr => exact absurd rfl hq
      | _ => rfl) rfl rfl

theorem changes_setPr (v : Word) : ChangesOnly u.prOut u (u.setPr v) := by
  rw [State.prOut, State.setPr]
  cases u.params.storage with
  | aliased => exact changes_setG u _ _
  | separate =>
    exact .wholeWord (fun q hq => by
      cases q with
      | pr => exact absurd rfl hq
      | _ => rfl) rfl rfl

theorem changes_setFpul (v : Word) : ChangesOnly u.fpulBits u (u.setFpul v) := by
  rw [State.fpulBits, State.setFpul]
  cases u.params.storage with
  | aliased => exact changes_setF u _ _
  | separate =>
    exact .wholeWord (fun q hq => by
      cases q with
      | fpul => exact absurd rfl hq
      | _ => rfl) rfl rfl

/-- A write of one half of a general register (10 R38). -/
theorem changes_half {d : MReg} (hd : d ≠ 63) {x : Quad} {hi lo : Nat}
    (hx : ∀ b, b < 64 → ¬(lo ≤ b ∧ b ≤ hi) → x.getLsbD b = (u.g d).getLsbD b) :
    ChangesOnly (gprAt d hi lo) u (u.setG d x) :=
  .of_eq (fun _ => stored_setG_ne u d x) fun b hb => by
    have hg : (u.setG d x).g d = x := (State.g_setG u d d x).trans (if_pos ⟨rfl, hd⟩)
    show ((u.setG d x).g d).getLsbD b = (u.g d).getLsbD b
    rw [hg]
    by_cases h64 : b < 64
    · exact hx b h64 fun h => Bool.eq_false_iff.1 hb ((getLsbD_bits hi lo b).2 ⟨h.1, h.2, h64⟩)
    · rw [BitVec.getLsbD_of_ge _ _ (by omega), BitVec.getLsbD_of_ge _ _ (by omega)]

theorem changes_setMacl (v : Word) : ChangesOnly u.maclBits u (u.setMacl v) := by
  rw [State.maclBits, State.setMacl]
  cases u.params.storage with
  | aliased =>
    refine changes_half u (by decide) fun b h64 hout => ?_
    have hlow : ¬b < 32 := by omega
    have hhigh : b - 32 < 32 := by omega
    rw [BitVec.getLsbD_append, if_neg hlow, high32, BitVec.getLsbD_extractLsb', decide_eq_true hhigh, Bool.true_and,
      Nat.add_sub_cancel' (by omega)]
  | separate =>
    exact .wholeWord (fun q hq => by
      cases q with
      | macl => exact absurd rfl hq
      | _ => rfl) rfl rfl

theorem changes_setMach (v : Word) : ChangesOnly u.machBits u (u.setMach v) := by
  rw [State.machBits, State.setMach]
  cases u.params.storage with
  | aliased =>
    refine changes_half u (by decide) fun b h64 hout => ?_
    have hlow : b < 32 := by omega
    rw [BitVec.getLsbD_append, if_pos hlow, getLsbD_low32 _ hlow]
  | separate =>
    exact .wholeWord (fun q hq => by
      cases q with
      | mach => exact absurd rfl hq
      | _ => rfl) rfl rfl

end

end Sys2Proof.Machine
end

section
/-! SUPPORT. Every meaning touches only what `access` says it writes, instruction by instruction. -/

namespace Sys2Proof.Machine

/-- The media instructions that transfer control to a target register, with its number (60 R861). -/
def transfersTo (i : Instr) (a : TReg) : Prop :=
  ∃ (m n d : MReg) (imm : BitVec 6) (l : BitVec 1),
    i ∈ ([.mBlink a d, .mBeq m n l a, .mBne m n l a, .mBge m n l a, .mBgt m n l a, .mBgeu m n l a, .mBgtu m n l a,
      .mBeqi m imm l a, .mBnei m imm l a] : List Instr)

/-- From `s` to `u` the meaning of `i` changes no register bit but those it writes, records no branch unless it is slot-illegal, and
leaves the mode unless it is a media branch. -/
structure Touches (i : Instr) (s u : State) : Prop where
  params : u.params = s.params
  covered : ∀ r b, (u.stored r).getLsbD b ≠ (s.stored r).getLsbD b →
    ∃ x ∈ (access i s).writes, x.Fits ∧ x.reg = r ∧ x.mask.getLsbD b = true
  pending : slotIllegal i = false → u.pending = s.pending
  ism : u.ism = s.ism ∨ ∃ a, transfersTo i a ∧ u.ism = ismOfTag (s.t a)

/-- What the meaning of `i` that starts in `s` answers. -/
abbrev TouchAnswer (i : Instr) (s : State) (r : Result) : Prop := Answers (Ends (Touches i s) s) r

section
variable {i : Instr} {s u : State}

theorem Touches.start : Touches i s s := ⟨rfl, fun _ _ h => absurd rfl h, fun _ => rfl, .inl rfl⟩

/-- An update that changes only bits that the instruction writes. -/
theorem Touches.update {v : State} {x : StoreBits} (h : Touches i s u) (hx : x ∈ (access i s).writes) (hfits : x.Fits)
    (hv : ChangesOnly x u v) (hparams : v.params = u.params) (hpending : v.pending = u.pending) (hism : v.ism = u.ism) :
    Touches i s v where
  params := hparams.trans h.params
  covered r b hb := by
    by_cases hu : (v.stored r).getLsbD b = (u.stored r).getLsbD b
    · exact h.covered r b (hu ▸ hb)
    · obtain ⟨hr, hm⟩ := hv r b hu
      exact ⟨x, hx, hfits, hr.symm, hm⟩
  pending hs := hpending.trans (h.pending hs)
  ism := by rw [hism]; exact h.ism

/-- An update of no register, of neither the mode nor the pending branch. -/
theorem Touches.same {v : State} (h : Touches i s u) (hv : v.stored = u.stored) (hparams : v.params = u.params)
    (hpending : v.pending = u.pending) (hism : v.ism = u.ism) : Touches i s v where
  params := hparams.trans h.params
  covered r b hb := h.covered r b (hv ▸ hb)
  pending hs := hpending.trans (h.pending hs)
  ism := by rw [hism]; exact h.ism

/-! ### One rule for each update -/

theorem gpr_fits (d : MReg) : (gpr d).Fits := fits64 rfl

theorem single_fits (k : MReg) : (single k).Fits := fits32 rfl

theorem flag_fits {r : Store} (hr : r.width = 32) {b : Nat} (hb : b < 32) : StoreBits.Fits ⟨r, bits b b⟩ :=
  fits_bits (by omega)

theorem Touches.setG (h : Touches i s u) {d : MReg} (v : Quad) (hx : gpr d ∈ (access i s).writes) : Touches i s (u.setG d v) :=
  h.update hx (gpr_fits d) (changes_setG u d v) rfl rfl rfl

theorem Touches.setR (h : Touches i s u) {n : CReg} (v : Word) (hx : grcOut n ∈ (access i s).writes) :
    Touches i s (u.setR n v) := h.setG _ hx

theorem Touches.setF (h : Touches i s u) {k : MReg} (v : Word) (hx : single k ∈ (access i s).writes) :
    Touches i s (u.setF k v) := h.update hx (single_fits k) (changes_setF u k v) rfl rfl rfl

theorem Touches.setD (h : Touches i s u) {k : MReg} (v : Quad) (hx : ∀ x ∈ pairBits k, x ∈ (access i s).writes) :
    Touches i s (u.setD k v) :=
  (h.setF _ (hx _ (by simp [pairBits]))).setF _ (hx _ (by simp [pairBits]))

theorem Touches.setFv (h : Touches i s u) {k : MReg} (x : Nat → Word)
    (hx : ∀ y ∈ singlesFrom k 4, y ∈ (access i s).writes) : Touches i s (u.setFv k x) := by
  have hmem (j : Nat) (hj : j < 4) : single (k + BitVec.ofNat 6 j) ∈ (access i s).writes :=
    hx _ (List.mem_map.2 ⟨j, List.mem_range.2 hj, rfl⟩)
  have h0 : single k ∈ (access i s).writes := by simpa using hmem 0 (by decide)
  exact (((h.setF _ h0).setF _ (hmem 1 (by decide))).setF _ (hmem 2 (by decide))).setF _ (hmem 3 (by decide))

theorem Touches.setCf (h : Touches i s u) {n : CReg} (v : Word) (hx : u.cfBits n ∈ (access i s).writes) :
    Touches i s (u.setCf n v) := h.setF v hx

theorem Touches.setCd (h : Touches i s u) {n : CReg} (v : Quad) (hx : ∀ x ∈ pairBits (u.bank n), x ∈ (access i s).writes) :
    Touches i s (u.setCd n v) := h.setD v hx

theorem Touches.setTr (h : Touches i s u) {a : TReg} (v : Quad) (hx : target a ∈ (access i s).writes) :
    Touches i s (u.setTr a v) := h.update hx (fits64 rfl) (changes_setTr u a v) rfl rfl rfl

theorem Touches.setSr (h : Touches i s u) (v : Word) (hx : srBits ∈ (access i s).writes) : Touches i s { u with sr := v } :=
  h.update hx (fits32 rfl) (changes_sr u v) rfl rfl rfl

theorem Touches.setT (h : Touches i s u) (b : Bool) (hx : tBit ∈ (access i s).writes) : Touches i s (u.setT b) :=
  h.update hx (flag_fits rfl (by decide)) (changes_setBit u (by decide) b) rfl rfl rfl

theorem Touches.setS (h : Touches i s u) (b : Bool) (hx : sBit ∈ (access i s).writes) : Touches i s (u.setS b) :=
  h.update hx (flag_fits rfl (by decide)) (changes_setBit u (by decide) b) rfl rfl rfl

theorem Touches.setQ (h : Touches i s u) (b : Bool) (hx : qBit ∈ (access i s).writes) : Touches i s (u.setQ b) :=
  h.update hx (flag_fits rfl (by decide)) (changes_setBit u (by decide) b) rfl rfl rfl

theorem Touches.setM (h : Touches i s u) (b : Bool) (hx : mBit ∈ (access i s).writes) : Touches i s (u.setM b) :=
  h.update hx (flag_fits rfl (by decide)) (changes_setBit u (by decide) b) rfl rfl rfl

theorem Touches.setC (h : Touches i s u) {k : MReg} (v : Quad) (hx : control k ∈ (access i s).writes) :
    Touches i s (u.setC k v) :=
  h.update hx (control_fits k) (changes_setC u k v) (by unfold State.setC; split <;> rfl) (by unfold State.setC; split <;> rfl)
    (by unfold State.setC; split <;> rfl)

theorem Touches.setFpscr (h : Touches i s u) (v : Word) (hx : fpscrBits ∈ (access i s).writes) : Touches i s (u.setFpscr v) :=
  h.update hx (fits32 rfl) (changes_setFpscr u v) rfl rfl rfl

theorem Touches.toggle (h : Touches i s u) {k : Nat} {m : Word} (hk : k < 32) (hm : m = BitVec.twoPow 32 k)
    (hx : ⟨.fpscr, bits k k⟩ ∈ (access i s).writes) : Touches i s { u with fpscr := u.fpscr ^^^ m } :=
  h.update hx (flag_fits rfl hk) (changes_toggle u hk hm) rfl rfl rfl

theorem Touches.setVbr (h : Touches i s u) (v : Word) (hx : vbrBits ∈ (access i s).writes) : Touches i s (u.setVbr v) :=
  h.update hx (fits32 rfl) (changes_setVbr u v) rfl rfl rfl

/-! Where a special register is kept depends on the parameters, which no update changes (10 R38, R51). -/

theorem Touches.setGbr (h : Touches i s u) (v : Word) (hx : s.gbrOut ∈ (access i s).writes) : Touches i s (u.setGbr v) := by
  have hplace : u.gbrOut = s.gbrOut := by simp only [State.gbrOut, h.params]
  exact h.update (hplace ▸ hx) u.gbrOut_fits (changes_setGbr u v) (by simp) (by simp) (by simp)

theorem Touches.setMach (h : Touches i s u) (v : Word) (hx : s.machBits ∈ (access i s).writes) : Touches i s (u.setMach v) := by
  have hplace : u.machBits = s.machBits := by simp only [State.machBits, h.params]
  exact h.update (hplace ▸ hx) u.machBits_fits (changes_setMach u v) (by simp) (by simp) (by simp)

theorem Touches.setMacl (h : Touches i s u) (v : Word) (hx : s.maclBits ∈ (access i s).writes) : Touches i s (u.setMacl v) := by
  have hplace : u.maclBits = s.maclBits := by simp only [State.maclBits, h.params]
  exact h.update (hplace ▸ hx) u.maclBits_fits (changes_setMacl u v) (by simp) (by simp) (by simp)

theorem Touches.setMac (h : Touches i s u) (v : Quad) (hx : ∀ x ∈ s.macBits, x ∈ (access i s).writes) :
    Touches i s (u.setMac v) :=
  (h.setMach _ (hx _ (by simp [State.macBits]))).setMacl _ (hx _ (by simp [State.macBits]))

theorem Touches.setPr (h : Touches i s u) (v : Word) (hx : s.prOut ∈ (access i s).writes) : Touches i s (u.setPr v) := by
  have hplace : u.prOut = s.prOut := by simp only [State.prOut, h.params]
  exact h.update (hplace ▸ hx) u.prOut_fits (changes_setPr u v) (by simp) (by simp) (by simp)

theorem Touches.setFpul (h : Touches i s u) (v : Word) (hx : s.fpulBits ∈ (access i s).writes) : Touches i s (u.setFpul v) := by
  have hplace : u.fpulBits = s.fpulBits := by simp only [State.fpulBits, h.params]
  exact h.update (hplace ▸ hx) u.fpulBits_fits (changes_setFpul u v) (by simp) (by simp) (by simp)

theorem Touches.setPC (h : Touches i s u) (v : Quad) : Touches i s (u.setPC v) := h.same rfl rfl rfl rfl

theorem Touches.store8 (h : Touches i s u) (a : Quad) (b : Byte) : Touches i s (u.write8 a b) := h.same rfl rfl rfl rfl
theorem Touches.store16 (h : Touches i s u) (a : Quad) (v : Half) : Touches i s (u.write16 a v) := h.same rfl rfl rfl rfl
theorem Touches.store32 (h : Touches i s u) (a : Quad) (v : Word) : Touches i s (u.write32 a v) := h.same rfl rfl rfl rfl
theorem Touches.store64 (h : Touches i s u) (a : Quad) (v : Quad) : Touches i s (u.write64 a v) := h.same rfl rfl rfl rfl

theorem Touches.storePair (h : Touches i s u) (a v : Quad) : Touches i s (u.writePair a v) := (h.store32 _ _).store32 _ _

theorem Touches.scatter (h : Touches i s u) (plan : List (Quad × Nat)) (v : Quad) : Touches i s (u.scatter plan v) := by
  induction plan generalizing u with
  | nil => exact h
  | cons p plan ih => exact ih (h.store8 _ _)

theorem Touches.draw (h : Touches i s u) (n : Nat) : Touches i s { u with draws := n } := h.same rfl rfl rfl rfl

theorem Touches.recordBranch (h : Touches i s u) (p : Option Pending) (hs : slotIllegal i = true) :
    Touches i s { u with pending := p } where
  params := h.params
  covered := h.covered
  pending hf := absurd hs (ne_true_of_eq_false hf)
  ism := h.ism

theorem Touches.transfer (h : Touches i s u) {a : TReg} (ha : transfersTo i a) : Touches i s (u.setPCTagged (s.t a)) where
  params := h.params
  covered := h.covered
  pending := h.pending
  ism := .inr ⟨a, ha, rfl⟩

/-! ### The shapes of the meanings -/

theorem touches_retire (h : Touches i s u) {size : Quad} : TouchAnswer i s (u.retire size) := .completed (h.setPC _)

theorem touches_putR {n : CReg} {v : Word} (hx : grcOut n ∈ (access i s).writes) : TouchAnswer i s (s.putR n v) :=
  touches_retire (Touches.start.setR v hx)

theorem touches_putT {b : Bool} (hx : tBit ∈ (access i s).writes) : TouchAnswer i s (s.putT b) :=
  touches_retire (Touches.start.setT b hx)

theorem touches_putRT {n : CReg} {v : Word} {b : Bool} (hx : grcOut n ∈ (access i s).writes)
    (ht : tBit ∈ (access i s).writes) : TouchAnswer i s (s.putRT n v b) :=
  touches_retire ((Touches.start.setR v hx).setT b ht)

theorem touches_putInc {m n : CReg} {size v : Word} (hm : grcOut m ∈ (access i s).writes)
    (hn : grcOut n ∈ (access i s).writes) : TouchAnswer i s (s.putInc m n size v) := by
  unfold State.putInc
  split
  · exact touches_retire (Touches.start.setR _ hn)
  · exact touches_retire ((Touches.start.setR _ hm).setR _ hn)

theorem touches_popWith {m : CReg} {f : State → Word → State} (hm : grcOut m ∈ (access i s).writes)
    (hf : ∀ (u : State) (v : Word), Touches i s u → Touches i s (f u v)) : TouchAnswer i s (s.popWith m f) :=
  .popWith .memoryFault fun v => touches_retire (hf _ v (Touches.start.setR _ hm))

theorem touches_push {n : CReg} {v : Word} (hn : grcOut n ∈ (access i s).writes) : TouchAnswer i s (s.push n v) :=
  .push .memoryFault (touches_retire ((Touches.start.store32 _ _).setR _ hn))

theorem touches_delayedBranch (h : Touches i s u) {v : Quad} {tagged : Bool} (hs : slotIllegal i = true) :
    TouchAnswer i s (u.delayedBranch v tagged) := touches_retire (h.recordBranch _ hs)

theorem touches_mac {v : Quad} (hx : ∀ x ∈ s.macBits, x ∈ (access i s).writes) : TouchAnswer i s ((s.setMac v).retire 2) :=
  touches_retire (Touches.start.setMac v hx)

theorem touches_putG {d : MReg} {v : Quad} (hx : gpr d ∈ (access i s).writes) : TouchAnswer i s (s.putG d v) :=
  touches_retire (Touches.start.setG v hx)

theorem touches_setD {d : MReg} {v : Quad} (hx : ∀ x ∈ pairBits d, x ∈ (access i s).writes) :
    TouchAnswer i s ((s.setD d v).retire 4) := touches_retire (Touches.start.setD v hx)

theorem touches_branchTr {b : Bool} {a : TReg} (ha : transfersTo i a) : TouchAnswer i s (s.branchTr b a) :=
  .branchTr (fun _ => .completed (Touches.start.transfer ha)) fun _ => touches_retire .start

/-- A disp12 form is refused, or it runs with bit 11 of its displacement clear (41 R304). -/
theorem touches_disp12 {disp : BitVec 12} {w : RefuseReason} {k : Result} (hk : (!disp.msb) = true → TouchAnswer i s k) :
    TouchAnswer i s (if disp.msb then s.refuse w else k) := by
  split
  · exact .refuse w
  next h => exact hk (by simpa using h)

theorem touches_movcoL (n : CReg) : TouchAnswer i s (execCMovcoL n s) := by
  unfold execCMovcoL
  split
  · exact .refuse _
  · exact touches_retire .start

theorem touches_movliL (m : CReg) : TouchAnswer i s (execCMovliL m s) := by
  unfold execCMovliL
  split
  · exact .refuse _
  · exact touches_retire .start

/-! What the views of 43 R431 and 48 R751 write, where their check holds. -/

theorem mem_onlyIf {ok : Bool} {a : Access} {x : StoreBits} (h : ok = true) (hx : x ∈ a.writes) : x ∈ (onlyIf ok a).writes := by
  rwa [onlyIf, if_pos h]

theorem State.cfpBits_single (h : ¬s.fpPR = true) (n : CReg) : s.cfpBits n = [s.cfBits n] := if_neg h

theorem State.cfpBits_double (h : s.fpPR = true) (n : CReg) : s.cfpBits n = pairBits (s.bank n) := if_pos h

theorem State.fmovBits_single (h : ¬s.fpSZ = true) (n : CReg) : s.fmovBits n = [s.cfBits n] := if_neg h

theorem State.fmovBits_pair (h : s.fpSZ = true) (n : CReg) : s.fmovBits n = pairBits (s.fmovBase n) := if_pos h

/-- A form in the precision that FPSCR.PR selects, with a check of its fields in double precision (43 R431). -/
theorem touches_precision {ok : Bool} {k k' : Result}
    (hd : s.fpPR = true → (!s.fpPR || ok) = true → TouchAnswer i s k)
    (hs : ¬s.fpPR = true → (!s.fpPR || ok) = true → TouchAnswer i s k') :
    TouchAnswer i s (if s.fpPR then s.require ok k else k') := by
  split
  next hpr => exact .require .invalid fun hok => hd hpr (Bool.or_eq_true_iff.2 (.inr hok))
  next hpr => exact hs hpr (Bool.or_eq_true_iff.2 (.inl (by simpa using hpr)))

/-- A form that writes `FRn` or `DRn`. -/
theorem touches_fpWrite {ok : Bool} {n : CReg} {v : Word} {w : Quad}
    (hx : (!s.fpPR || ok) = true → ∀ x ∈ s.cfpBits n, x ∈ (access i s).writes) :
    TouchAnswer i s (if s.fpPR then s.require ok ((s.setCd n w).retire 2) else (s.setCf n v).retire 2) :=
  touches_precision
    (fun hpr hok => touches_retire (Touches.start.setCd _ (State.cfpBits_double hpr n ▸ hx hok)))
    (fun hpr hok => touches_retire (Touches.start.setCf _ (hx hok _ (State.cfpBits_single hpr n ▸ List.mem_cons_self))))

/-- A form that writes T. -/
theorem touches_fpCompare {m n : CReg} {f : Word → Word → Bool} {g : Quad → Quad → Bool}
    (hx : (!s.fpPR || evenC n && evenC m) = true → tBit ∈ (access i s).writes) : TouchAnswer i s (fpCompare s m n f g) :=
  touches_precision (fun _ hok => touches_putT (hx hok)) fun _ hok => touches_putT (hx hok)

/-- A form that writes FPUL. -/
theorem touches_fpulWrite {ok : Bool} {v w : Word} (hx : (!s.fpPR || ok) = true → s.fpulBits ∈ (access i s).writes) :
    TouchAnswer i s (if s.fpPR then s.require ok ((s.setFpul w).retire 2) else (s.setFpul v).retire 2) :=
  touches_precision (fun _ hok => touches_retire (Touches.start.setFpul _ (hx hok)))
    fun _ hok => touches_retire (Touches.start.setFpul _ (hx hok))

theorem touches_fmov {n : CReg} {v : Word} {w : Quad} (hx : ∀ x ∈ s.fmovBits n, x ∈ (access i s).writes) :
    TouchAnswer i s (if s.fpSZ then (s.setD (s.fmovBase n) w).retire 2 else (s.setCf n v).retire 2) := by
  split
  next hsz => exact touches_retire (Touches.start.setD _ (State.fmovBits_pair hsz n ▸ hx))
  next hsz => exact touches_retire (Touches.start.setCf _ (hx _ (State.fmovBits_single hsz n ▸ List.mem_cons_self)))

theorem touches_fmovLoadAt {a : Quad} {n : CReg} {f : State → State} (hx : ∀ x ∈ s.fmovBits n, x ∈ (access i s).writes)
    (hf : ∀ u, Touches i s u → Touches i s (f u)) : TouchAnswer i s (fmovLoadAt s a n f) := by
  unfold fmovLoadAt
  split
  next hsz =>
    rw [State.fmovBits_pair hsz] at hx
    exact .readPair fun v => touches_retire (hf _ (Touches.start.setD v hx))
  next hsz =>
    rw [State.fmovBits_single hsz] at hx
    exact .read (touches_retire (hf _ (Touches.start.setCf _ (hx _ List.mem_cons_self))))

theorem touches_fmovStoreAt {a : Quad} {m : CReg} {f : State → State} (hf : ∀ u, Touches i s u → Touches i s (f u)) :
    TouchAnswer i s (fmovStoreAt s a m f) :=
  .ite (.writePair (touches_retire (hf _ (Touches.start.storePair _ _))))
    (.write (touches_retire (hf _ (Touches.start.store32 _ _))))

end

end Sys2Proof.Machine
end

section
/-! SUPPORT. Every instruction touches only what `access` says it writes, grouped by the shape of its meaning. -/

namespace Sys2Proof.Machine

theorem mem_pair_left {x y : StoreBits} : x ∈ [x, y] := List.mem_cons_self

theorem mem_pair_right {x y : StoreBits} : y ∈ [x, y] := List.mem_cons_of_mem _ List.mem_cons_self

theorem mem_triple_last {x y z : StoreBits} : z ∈ [x, y, z] := List.mem_cons_of_mem _ mem_pair_right

/-! A conditional move writes its register only when it is taken (44 R520, R521), and putcon writes SR or a control register. -/

theorem gpr_mem_mCmveq {s : State} {m : MReg} (h : s.g m = 0) (n d : MReg) :
    gpr d ∈ (access (.mCmveq m n d) s).writes := by
  show _ ∈ (if s.g m = 0 then outG _ d else _ : Access).writes
  rw [if_pos h]
  exact List.mem_cons_self

theorem gpr_mem_mCmvne {s : State} {m : MReg} (h : ¬s.g m = 0) (n d : MReg) :
    gpr d ∈ (access (.mCmvne m n d) s).writes := by
  show _ ∈ (if s.g m = 0 then _ else outG _ d : Access).writes
  rw [if_neg h]
  exact List.mem_cons_self

theorem touches_mCmveq (m n d : MReg) (s : State) : TouchAnswer (.mCmveq m n d) s (execMCmveq m n d s) := by
  unfold execMCmveq
  split
  next h => exact touches_putG (gpr_mem_mCmveq h n d)
  · exact touches_retire .start

theorem touches_mCmvne (m n d : MReg) (s : State) : TouchAnswer (.mCmvne m n d) s (execMCmvne m n d s) := by
  unfold execMCmvne
  split
  · exact touches_retire .start
  next h => exact touches_putG (gpr_mem_mCmvne h n d)

theorem control_mem_mPutcon (m d : MReg) (s : State) : control d ∈ (access (.mPutcon m d) s).writes := by
  show _ ∈ (if d = 0 then _ else _ : Access).writes
  split
  next h => exact h ▸ List.mem_cons_self
  · exact List.mem_cons_self

theorem exec_touches_compact (i : Instr) (s : State) (hi : codeIsm (encode i) = .compact) : TouchAnswer i s (exec i s) := by
  cases i with
  -- one general register, T, or both
  | cAdd | cAddImm | cDivu | cExtsB | cExtsW | cExtuB | cExtuW | cMulr | cNeg | cSub | cAnd | cAndImm | cNot | cOr | cOrImm
  | cXor | cXorImm | cShad | cShld | cShll2 | cShll8 | cShll16 | cShlr2 | cShlr8 | cShlr16 | cMov | cMovImm | cMova | cMovt
  | cSwapB | cSwapW | cXtrct | cStcGbr | cStcVbr | cStsMach | cStsMacl | cStsPr | cStsFpscr | cStsFpul =>
    exact touches_putR List.mem_cons_self
  | cMovi20 | cMovi20s => exact touches_retire (Touches.start.setR _ List.mem_cons_self)
  | cCmpEqImm | cCmpEq | cCmpHs | cCmpGe | cCmpHi | cCmpGt | cCmpPz | cCmpPl | cCmpStr | cTst | cTstImm | cClrt | cSett =>
    exact touches_putT List.mem_cons_self
  | cAddc | cAddv | cDt | cNegc | cSubc | cSubv | cRotl | cRotr | cRotcl | cRotcr | cShal | cShar | cShll | cShlr =>
    exact touches_putRT mem_pair_left mem_pair_right
  -- the other flags and the special registers
  | cDiv0s | cDiv0u =>
    exact touches_retire
      (((Touches.start.setQ _ List.mem_cons_self).setM _ (List.mem_cons_of_mem _ List.mem_cons_self)).setT _ mem_triple_last)
  | cDiv1 =>
    exact touches_retire
      (((Touches.start.setR _ List.mem_cons_self).setQ _ (List.mem_cons_of_mem _ List.mem_cons_self)).setT _ mem_triple_last)
  | cClrs | cSets => exact touches_retire (Touches.start.setS _ List.mem_cons_self)
  | cLdcSr => exact touches_retire (Touches.start.setSr _ List.mem_cons_self)
  | cLdcGbr => exact touches_retire (Touches.start.setGbr _ List.mem_cons_self)
  | cLdcVbr => exact touches_retire (Touches.start.setVbr _ List.mem_cons_self)
  | cLdsMach => exact touches_retire (Touches.start.setMach _ List.mem_cons_self)
  | cMulL | cMulsW | cMuluW | cLdsMacl => exact touches_retire (Touches.start.setMacl _ List.mem_cons_self)
  | cDmulsL | cDmuluL | cClrmac => exact touches_mac fun _ hx => hx
  | cLdsPr => exact touches_retire (Touches.start.setPr _ List.mem_cons_self)
  | cFlds | cLdsFpul => exact touches_retire (Touches.start.setFpul _ List.mem_cons_self)
  | cLdsFpscr => exact touches_retire (Touches.start.setFpscr _ List.mem_cons_self)
  | cMacL m n =>
    have hadv : Touches (.cMacL m n) s (macAdvance s m n 4) :=
      (Touches.start.setR _ (List.mem_append_left _ mem_pair_right)).setR _ (List.mem_append_left _ mem_pair_left)
    exact .read (.read (touches_retire (hadv.setMac _ fun x hx => List.mem_append_right _ hx)))
  | cMacW m n =>
    have hadv : Touches (.cMacW m n) s (macAdvance s m n 2) :=
      (Touches.start.setR _ (List.mem_append_left _ mem_pair_right)).setR _ (List.mem_append_left _ mem_pair_left)
    have hmacl : s.maclBits ∈ (access (.cMacW m n) s).writes := List.mem_append_right _ mem_pair_right
    have hmach : s.machBits ∈ (access (.cMacW m n) s).writes := List.mem_append_right _ mem_pair_left
    exact .read (.read (.ite (touches_retire (((hadv.setMacl _ hmacl).setMach _ hmach).draw _))
      (touches_retire (hadv.setMac _ fun x hx => List.mem_append_right _ hx))))
  -- special registers through memory
  | cLdcLGbr => exact touches_popWith mem_pair_left fun _ v h => h.setGbr v mem_pair_right
  | cLdcLVbr => exact touches_popWith mem_pair_left fun _ v h => h.setVbr v mem_pair_right
  | cLdsLMach => exact touches_popWith mem_pair_left fun _ v h => h.setMach v mem_pair_right
  | cLdsLMacl => exact touches_popWith mem_pair_left fun _ v h => h.setMacl v mem_pair_right
  | cLdsLPr => exact touches_popWith mem_pair_left fun _ v h => h.setPr v mem_pair_right
  | cLdsLFpscr => exact touches_popWith mem_pair_left fun _ v h => h.setFpscr v mem_pair_right
  | cLdsLFpul => exact touches_popWith mem_pair_left fun _ v h => h.setFpul v mem_pair_right
  | cStcLGbr | cStcLVbr | cStsLMach | cStsLMacl | cStsLPr | cStsLFpscr | cStsLFpul => exact touches_push List.mem_cons_self
  -- loads and stores
  | cMovWLoadPc | cMovLLoadPc | cMovBLoad | cMovWLoad | cMovLLoad | cMovBLoadIdx | cMovWLoadIdx | cMovLLoadIdx | cMovBLoadDisp
  | cMovWLoadDisp | cMovLLoadDisp | cMovBLoadGbr | cMovWLoadGbr | cMovLLoadGbr =>
    exact .read (touches_putR List.mem_cons_self)
  | cMovBLoadInc | cMovWLoadInc | cMovLLoadInc => exact .read (touches_putInc mem_pair_left mem_pair_right)
  | cMovuaL => exact .reads (touches_putR List.mem_cons_self)
  | cMovuaLInc => exact .reads (touches_putInc mem_pair_left mem_pair_right)
  | cMovLLoadDisp12 =>
    exact touches_disp12 fun h => .read (touches_retire (Touches.start.setR _ (mem_onlyIf h List.mem_cons_self)))
  | cMovBStore | cMovBStoreIdx | cMovBStoreDisp | cMovBStoreGbr => exact .write (touches_retire (Touches.start.store8 _ _))
  | cMovWStore | cMovWStoreIdx | cMovWStoreDisp | cMovWStoreGbr => exact .write (touches_retire (Touches.start.store16 _ _))
  | cMovLStore | cMovLStoreIdx | cMovLStoreDisp | cMovLStoreGbr | cMovcaL =>
    exact .write (touches_retire (Touches.start.store32 _ _))
  | cMovBStoreDec => exact .write (touches_retire ((Touches.start.store8 _ _).setR _ List.mem_cons_self))
  | cMovWStoreDec => exact .write (touches_retire ((Touches.start.store16 _ _).setR _ List.mem_cons_self))
  | cMovLStoreDec => exact .write (touches_retire ((Touches.start.store32 _ _).setR _ List.mem_cons_self))
  | cMovLStoreDisp12 => exact .ite (.refuse _) (.write (touches_retire (Touches.start.store32 _ _)))
  | cAndB | cOrB | cXorB => exact .read (.write (touches_retire (Touches.start.store8 _ _)))
  | cTasB => exact .read (.write (touches_retire ((Touches.start.setT _ List.mem_cons_self).store8 _ _)))
  | cTstB => exact .read (touches_putT List.mem_cons_self)
  -- branches, traps, hints and refusals
  | cBf => exact .ite (touches_retire .start) (.completed (Touches.start.setPC _))
  | cBt => exact .ite (.completed (Touches.start.setPC _)) (touches_retire .start)
  | cBfS | cBtS | cBra | cBraf | cJmp | cRts => exact touches_delayedBranch .start rfl
  | cBsr | cBsrf | cJsr => exact touches_delayedBranch (Touches.start.setPr _ List.mem_cons_self) rfl
  | cTrapa | cBrk => exact .trap2 _
  | cNop | cPref | cOcbi | cOcbp | cOcbwb => exact touches_retire .start
  | cMovcoL n => exact touches_movcoL n
  | cMovliL m => exact touches_movliL m
  -- floating point
  | cFabs | cFneg | cFsqrt | cFloat | cFadd | cFsub | cFmul | cFdiv => exact touches_fpWrite fun h x hx => mem_onlyIf h hx
  | cFcmpEq | cFcmpGt => exact touches_fpCompare fun h => mem_onlyIf h List.mem_cons_self
  | cFsts => exact touches_retire (Touches.start.setCf _ List.mem_cons_self)
  | cFmac | cFldi0 | cFldi1 | cFipr =>
    exact .require .invalid fun h => touches_retire (Touches.start.setCf _ (mem_onlyIf h List.mem_cons_self))
  | cFtrc => exact touches_fpulWrite fun h => mem_onlyIf h List.mem_cons_self
  | cFcnvsd n => exact .require .invalid fun h => touches_retire (Touches.start.setCd _ fun x hx => mem_onlyIf h hx)
  | cFcnvds => exact .require .invalid fun h => touches_retire (Touches.start.setFpul _ (mem_onlyIf h List.mem_cons_self))
  | cFtrv n => exact .require .invalid fun h => touches_retire (Touches.start.setFv _ fun x hx => mem_onlyIf h hx)
  | cFrchg =>
    exact .require .invalid fun h => touches_retire (Touches.start.toggle (k := 21) (by decide) rfl (mem_onlyIf h List.mem_cons_self))
  | cFschg =>
    exact .require .invalid fun h => touches_retire (Touches.start.toggle (k := 20) (by decide) rfl (mem_onlyIf h List.mem_cons_self))
  | cFmov => exact touches_fmov fun x hx => hx
  | cFmovLoad | cFmovLoadIdx => exact touches_fmovLoadAt (fun x hx => hx) fun _ h => h
  | cFmovLoadInc m n =>
    have hview : ∀ x ∈ s.fmovBits n, x ∈ (access (.cFmovLoadInc m n) s).writes := fun _ hx => List.mem_cons_of_mem _ hx
    exact touches_fmovLoadAt hview fun _ h => h.setR _ List.mem_cons_self
  | cFmovLoadDisp12 =>
    exact touches_disp12 fun h => .readPair fun _ => touches_retire (Touches.start.setCd _ fun x hx => mem_onlyIf h hx)
  | cFmovStore | cFmovStoreIdx => exact touches_fmovStoreAt fun _ h => h
  | cFmovStoreDec => exact touches_fmovStoreAt fun _ h => h.setR _ List.mem_cons_self
  | cFmovStoreDisp12 => exact .ite (.refuse _) (.writePair (touches_retire (Touches.start.storePair _ _)))
  | _ => cases hi

theorem exec_touches_media (i : Instr) (s : State) (hi : codeIsm (encode i) = .media) : TouchAnswer i s (exec i s) := by
  cases i with
  -- one general register
  | mAdd | mAddL | mAddi | mAddiL | mAddzL | mSub | mSubL | mAnd | mAndc | mAndi | mOr | mOri | mXor | mXori | mCmpeq | mCmpgt
  | mCmpgtu | mNsb | mByterev | mMuluL | mMulsL | mShlld | mShlldL | mShlrd | mShlrdL | mShard | mShardL | mShlli | mShlliL
  | mShlri | mShlriL | mShari | mShariL | mMovi | mShori | mGettr | mGetcon => exact touches_putG List.mem_cons_self
  | mMaddW | mMaddL | mMaddsUb | mMaddsW | mMaddsL | mMsubW | mMsubL | mMsubsUb | mMsubsW | mMsubsL | mMabsW | mMabsL | mMcmpeqB
  | mMcmpeqW | mMcmpeqL | mMcmpgtUb | mMcmpgtW | mMcmpgtL | mMcmv | mMcnvsLw | mMcnvsWb | mMcnvsWub | mMextr1 | mMextr2 | mMextr3
  | mMextr4 | mMextr5 | mMextr6 | mMextr7 | mMmacfxWl | mMmacnfxWl | mMmulW | mMmulL | mMmulfxW | mMmulfxL | mMmulfxrpW
  | mMmulhiWl | mMmulloWl | mMmulsumWq | mMpermW | mMsadUbq | mMshaldsW | mMshaldsL | mMshardW | mMshardL | mMshardsQ | mMshlldW
  | mMshlldL | mMshlrdW | mMshlrdL | mMshfloB | mMshfloW | mMshfloL | mMshfhiB | mMshfhiW | mMshfhiL =>
    exact touches_putG List.mem_cons_self
  | mFcmpeqS | mFcmpunS | mFcmpgtS | mFcmpgeS => exact touches_putG List.mem_cons_self
  | mFcmpeqD | mFcmpunD | mFcmpgtD | mFcmpgeD | mFmovSl | mFmovDq =>
    exact .require .invalid fun h => touches_putG (mem_onlyIf h List.mem_cons_self)
  | mCmveq m n d => exact touches_mCmveq m n d s
  | mCmvne m n d => exact touches_mCmvne m n d s
  -- loads and stores
  | mLdB | mLdW | mLdL | mLdQ | mLdUb | mLdUw | mLdxB | mLdxW | mLdxL | mLdxQ | mLdxUb | mLdxUw =>
    exact .read (touches_putG List.mem_cons_self)
  | mLdloL | mLdloQ | mLdhiL | mLdhiQ => exact .reads (touches_putG List.mem_cons_self)
  | mStB | mStxB => exact .write (touches_retire (Touches.start.store8 _ _))
  | mStW | mStxW => exact .write (touches_retire (Touches.start.store16 _ _))
  | mStL | mStxL | mFstS | mFstxS => exact .write (touches_retire (Touches.start.store32 _ _))
  | mStQ | mStxQ => exact .write (touches_retire (Touches.start.store64 _ _))
  | mStloL | mStloQ | mSthiL | mSthiQ => exact .writes (touches_retire (Touches.start.scatter _ _))
  | mSwapQ => exact .read (.write (touches_retire ((Touches.start.store64 _ _).setG _ List.mem_cons_self)))
  | mFldS | mFldxS => exact .read (touches_retire (Touches.start.setF _ List.mem_cons_self))
  | mFldD | mFldxD => exact .require .invalid fun h => .read (touches_setD fun x hx => mem_onlyIf h hx)
  | mFldP | mFldxP => exact .require .invalid fun h => .readPair fun _ => touches_setD fun x hx => mem_onlyIf h hx
  | mFstD | mFstxD => exact .need (.write (touches_retire (Touches.start.store64 _ _)))
  | mFstP | mFstxP => exact .need (.writePair (touches_retire (Touches.start.storePair _ _)))
  -- branches, control registers, traps, hints and refusals
  | mPta | mPtb | mPtabs | mPtrel => exact touches_retire (Touches.start.setTr _ List.mem_cons_self)
  | mBlink a d =>
    exact .completed ((Touches.start.setG _ List.mem_cons_self).transfer ⟨0, 0, d, 0, 0, by simp⟩)
  | mBeq m n l a | mBge m n l a | mBne m n l a | mBgt m n l a | mBgeu m n l a | mBgtu m n l a =>
    exact touches_branchTr ⟨m, n, 0, 0, l, by simp⟩
  | mBeqi m imm l a | mBnei m imm l a => exact touches_branchTr ⟨m, 0, 0, imm, l, by simp⟩
  | mPutcon m d => exact touches_retire (Touches.start.setC _ (control_mem_mPutcon m d s))
  | mTrapa | mBrk => exact .trap4 _
  | mPrefi | mAlloco | mIcbi | mOcbp | mOcbi | mOcbwb | mSynci | mSynco | mNop => exact touches_retire .start
  | mGetcfg | mPutcfg | mRte | mSleep => exact .refuse _
  -- floating point
  | mFaddS | mFsubS | mFdivS | mFmulS | mFmacS | mFmovLs | mFgetscr =>
    exact touches_retire (Touches.start.setF _ List.mem_cons_self)
  | mFabsS | mFnegS | mFsqrtS | mFmovS | mFcnvDs | mFtrcSl | mFtrcDl | mFloatLs | mFloatQs | mFiprS =>
    exact .require .invalid fun h => touches_retire (Touches.start.setF _ (mem_onlyIf h List.mem_cons_self))
  | mFabsD | mFnegD | mFaddD | mFsubD | mFdivD | mFmulD | mFsqrtD | mFmovD | mFcnvSd | mFtrcDq | mFtrcSq | mFloatQd | mFloatLd
  | mFmovQd => exact .require .invalid fun h => touches_setD fun x hx => mem_onlyIf h hx
  | mFputscr => exact .require .invalid fun h => touches_retire (Touches.start.setFpscr _ (mem_onlyIf h List.mem_cons_self))
  | mFtrvS => exact .require .invalid fun h => touches_retire (Touches.start.setFv _ fun x hx => mem_onlyIf h hx)
  | _ => cases hi

theorem exec_touches (i : Instr) (s : State) : TouchAnswer i s (exec i s) := by
  cases hi : codeIsm (encode i) with
  | compact => exact exec_touches_compact i s hi
  | media => exact exec_touches_media i s hi

end Sys2Proof.Machine
end

section
/-! SUPPORT. What every step does (49 R820 to R831, 60 R851 to R861): the pending branch and the mode, its outcomes, and the
invariant, from what an instruction can do. -/

namespace Sys2Proof.Machine

/-! ### The pending branch and the mode -/

section
variable {s t u : State} {i : Instr} {p : Pending}

/-- An instruction that is not slot-illegal leaves the pending branch (49 R828). -/
theorem exec_pending (hs : slotIllegal i = false) (ht : exec i s = .next t) : t.pending = s.pending := by
  cases (exec_touches i s).of_next ht with
  | completed h => exact h.pending hs
  | _ => rfl

/-- Only a compact instruction records a branch (10 R54). -/
theorem compact_of_pending (ht : exec i s = .next t) (hp : t.pending ≠ s.pending) : codeIsm (encode i) = .compact := by
  cases hi : codeIsm (encode i) with
  | compact => rfl
  | media =>
    obtain ⟨-, -, -, -, -, -, -, hpending, -⟩ := (eachEncodingKeepsTheOthersState i s t ht).1 hi
    exact absurd hpending hp

theorem exec_compact_ism (hi : codeIsm (encode i) = .compact) (ht : exec i s = .next t) : t.ism = s.ism := by
  obtain ⟨-, -, hism, -⟩ := (eachEncodingKeepsTheOthersState i s t ht).2 hi
  exact hism

/-- A normal completion reports nothing. -/
theorem exec_event (ht : exec i s = .next t) (hd : t.dstate = .fetching) : t.event = .none := by
  cases (exec_touches i s).of_next ht with
  | completed _ => rfl
  | _ => cases hd

theorem State.commitPending_pc (h : s.pending = some p) :
    s.commitPending.pc = if p.tagged then p.target &&& ~~~1#64 else p.target := by
  rw [State.commitPending, h]
  by_cases ht : p.tagged = true
  · simp only [ht, if_true]
    exact s.setPCTagged_pc p.target
  · simp only [ht, if_false, Bool.false_eq_true]
    rfl

theorem State.commitPending_ism (h : s.pending = some p) :
    s.commitPending.ism = if p.tagged then ismOfTag p.target else s.ism := by
  rw [State.commitPending, h]
  by_cases ht : p.tagged = true
  · simp only [ht, if_true]
    rfl
  · simp only [ht, if_false, Bool.false_eq_true]
    rfl

end

/-- Settles O42: the first step records the target, and the second commits it after the slot instruction; both run in compact mode. -/
theorem delayedBranchTakesTwoSteps : Obligations.DelayedBranchTakesTwoSteps := by
  rintro s t _ u c c' i j p hp hf hd he hr hx hdt hpend rfl hf' hd' hs' he' hr' hx' hdu
  have hpend' : (s.recordWrites i t).pending = some p := by rw [State.recordWrites_pending, hpend]
  have hfirst : step s = .next (s.recordWrites i t) := by
    rw [step_of_exec he hf hd (by simp [hp]) hr hx, State.stepped_none hp, if_pos hdt]
  have hsecond := step_of_exec he' hf' hd' (by simp [hs']) hr' hx'
  rw [State.stepped_slot (by simp [hpend]), if_pos hdu] at hsecond
  have hcompact : codeIsm (encode i) = .compact := compact_of_pending hx (by simp [hpend, hp])
  have hism : t.ism = .compact := by
    rw [exec_compact_ism hcompact hx]
    exact (codeIsm_encode_of_fetch hf hd).symm.trans hcompact
  have hslot : codeIsm (encode j) = .compact := by
    rw [codeIsm_encode_of_fetch hf' hd', State.recordWrites_ism, hism]
  have huism : u.ism = .compact := by
    rw [exec_compact_ism hslot hx']
    simpa using hism
  have hupend : ((s.recordWrites i t).recordWrites j u).pending = some p := by
    rw [State.recordWrites_pending, exec_pending hs' hx', hpend']
  refine ⟨_, hfirst, hsecond, State.commitPending_pending _, by simpa using hdu, by simpa using exec_event hx' hdu,
    State.commitPending_pc hupend, ?_, by simp, by simp, by simp, by simp⟩
  rw [State.commitPending_ism hupend, State.recordWrites_ism, huism, ismOfTag]
  cases p.tagged <;> rfl

/-- A step changes the mode by a tagged commit, or its instruction is a media branch (49 R831, 60 R861). -/
def TransfersMode (s t : State) : Prop :=
  (∃ p, s.pending = some p ∧ p.tagged = true ∧ t.pending = none ∧ t.ism = ismOfTag p.target) ∨
  ∃ c i a, s.fetch = .ok c ∧ decodeCode s.params.ext c = .ok i ∧ t.ism = ismOfTag (s.t a) ∧ transfersTo i a

/-- The end of a step, where the instruction leaves the mode or is a media branch. -/
theorem stepped_mode {s u : State} {c : Code} {i : Instr} (hf : s.fetch = .ok c) (hd : decodeCode s.params.ext c = .ok i)
    (hslot : (s.pending.isSome && slotIllegal i) = false)
    (hu : Touches i { s with dstate := .executing } u) :
    (s.stepped i { u with dstate := .fetching, event := .none }).ism = s.ism ∨
      TransfersMode s (s.stepped i { u with dstate := .fetching, event := .none }) := by
  have hmode (t : State) (ht : t.ism = u.ism) : t.ism = s.ism ∨ TransfersMode s t := by
    obtain h | ⟨a, ha, h⟩ := hu.ism
    · exact .inl (ht.trans h)
    · exact .inr (.inr ⟨c, i, a, hf, hd, ht.trans h, ha⟩)
  cases hp : s.pending with
  | none =>
    rw [State.stepped_none hp, if_pos rfl]
    exact hmode _ (by simp)
  | some p =>
    rw [State.stepped_slot (by simp [hp]), if_pos rfl]
    generalize hr : s.recordWrites i _ = r
    have hlegal : slotIllegal i = false := by simpa [hp] using hslot
    have hrp : r.pending = some p := by
      rw [← hr, State.recordWrites_pending]
      exact (hu.pending hlegal).trans hp
    cases htag : p.tagged with
    | true => exact .inr (.inl ⟨p, hp, htag, r.commitPending_pending, by rw [State.commitPending_ism hrp, htag, if_pos rfl]⟩)
    | false => exact hmode _ (by rw [State.commitPending_ism hrp, htag, if_neg nofun, ← hr, State.recordWrites_ism])

theorem step_mode (s : State) : Answers (fun t => t.ism = s.ism ∨ TransfersMode s t) (step s) := by
  refine step_outcome (fun _ => ⟨_, rfl, .inl rfl⟩) (fun _ => ⟨_, rfl, .inl rfl⟩) ⟨_, rfl, .inl rfl⟩ ⟨_, rfl, .inl rfl⟩
    fun c i hf hd hslot => (exec_touches i _).imp fun t ht => ?_
  cases ht with
  | completed hu => exact stepped_mode hf hd hslot hu
  | _ => rw [State.stepped_of_ne]; exacts [.inl rfl, nofun]

/-- Settles O50: a meaning changes the mode only as a media branch, and the end of a step only by a tagged commit. -/
theorem modeChangesOnlyByTransfers : Obligations.ModeChangesOnlyByTransfers := by
  intro s t ht hne
  obtain h | hcommit | ⟨c, i, a, hf, hd, hism, m, n, d, imm, l, hi⟩ := (step_mode s).of_next ht
  · exact absurd h hne
  · exact .inl hcommit
  · exact .inr ⟨c, i, a, m, n, d, imm, l, hf, hd, hism, hi⟩

/-! ### The outcomes of a step -/

/-- What tells the outcomes of a step apart (49 R824, 60 R851 to R853). -/
def StepEnds (s t : State) : Prop :=
  t.dstate = .fetching ∧ t.event = .none ∧ t.refused = s.refused ∨
    t = { s with dstate := .faulted, event := t.event, refused := t.refused } ∧
      ((∃ a, t.event = .memoryFault a s.taggedPC) ∧ t.refused = s.refused ∨
        ∃ pc, (pc = s.taggedPC ∨ pc = 0 ∧ s.entryUnwritten = true) ∧ t.event = .invalidInstruction pc ∧
          (t.refused = s.refused ∨ s.refused = none ∧ ∃ w, t.refused = some ⟨w, pc⟩)) ∨
    (t = { s with pc := s.pc + 2, dstate := .trapped, event := t.event } ∨
      t = { s with pc := s.pc + 4, dstate := .trapped, event := t.event }) ∧
      ∃ code, t.event = .explicitTrap code t.taggedPC

section
variable {s : State} {pc : Quad}

theorem StepEnds.memoryFault (s : State) (a : Quad) :
    StepEnds s { s with dstate := .faulted, event := .memoryFault a s.taggedPC } := .inr (.inl ⟨rfl, .inl ⟨⟨a, rfl⟩, rfl⟩⟩)

theorem StepEnds.invalid (s : State) :
    StepEnds s { s with dstate := .faulted, event := .invalidInstruction s.taggedPC } :=
  .inr (.inl ⟨rfl, .inr ⟨s.taggedPC, .inl rfl, rfl, .inl rfl⟩⟩)

/-- The mark that is set first stays (60 R856, log 13). -/
theorem refused_getD (old : Option RefusedMark) (w : RefuseReason) (pc : Quad) :
    some (old.getD ⟨w, pc⟩) = old ∨ old = none ∧ ∃ v, some (old.getD ⟨w, pc⟩) = some ⟨v, pc⟩ := by
  cases old with
  | none => exact .inr ⟨rfl, w, rfl⟩
  | some m => exact .inl rfl

theorem StepEnds.refused (w : RefuseReason) (hpc : pc = s.taggedPC ∨ pc = 0 ∧ s.entryUnwritten = true) :
    StepEnds s { s with
      dstate := .faulted
      event := .invalidInstruction pc
      refused := some (s.refused.getD ⟨w, pc⟩) } :=
  .inr (.inl ⟨rfl, .inr ⟨pc, hpc, rfl, refused_getD s.refused w pc⟩⟩)

end

/-- A meaning leaves the `refused` mark, but where it is refused (60 R856). -/
theorem exec_ends (i : Instr) (s : State) : Answers (Ends (fun u => u.refused = s.refused) s) (exec i s) := by
  have weaken {W : State → Prop} (hW : ∀ u, W u → u.refused = s.refused) (h : Answers (Ends W s) (exec i s)) :
      Answers (Ends (fun u => u.refused = s.refused) s) (exec i s) :=
    h.imp fun t ht => by
      cases ht with
      | completed hu => exact .completed (hW _ hu)
      | invalid => exact .invalid
      | memoryFault a => exact .memoryFault a
      | refused w => exact .refused w
      | trapped code hs => exact .trapped code hs
  cases hi : codeIsm (encode i) with
  | compact => exact weaken (fun _ hu => hu.keeps.refused) (exec_compact i s hi)
  | media => exact weaken (fun _ hu => (hu.keeps 0xFFFFFFFF fun _ _ => rfl).refused) (exec_media i s hi)

@[simp] theorem State.stepped_dstate (s t : State) (i : Instr) : (s.stepped i t).dstate = t.dstate := by
  unfold State.stepped; split <;> [split <;> simp; rfl]

@[simp] theorem State.stepped_event (s t : State) (i : Instr) : (s.stepped i t).event = t.event := by
  unfold State.stepped; split <;> [split <;> simp; rfl]

@[simp] theorem State.stepped_refused (s t : State) (i : Instr) : (s.stepped i t).refused = t.refused := by
  unfold State.stepped; split <;> [split <;> simp; rfl]

theorem step_ends (s : State) : Answers (StepEnds s) (step s) := by
  refine step_outcome (fun he => ⟨_, rfl, .refused _ (.inr ⟨rfl, he⟩)⟩) (fun a => ⟨_, rfl, .memoryFault s a⟩) ⟨_, rfl, .invalid s⟩
    ⟨_, rfl, .refused _ (.inl rfl)⟩ fun c i _ _ _ => (exec_ends i _).imp fun t ht => ?_
  cases ht with
  | completed hu => exact .inl ⟨by simp, by simp, by simpa using hu⟩
  | invalid => rw [State.stepped_of_ne]; exacts [.invalid s, nofun]
  | memoryFault a => rw [State.stepped_of_ne]; exacts [.memoryFault s a, nofun]
  | refused w => rw [State.stepped_of_ne]; exacts [.refused w (.inl rfl), nofun]
  | trapped code hsize =>
    rw [State.stepped_of_ne]
    · exact .inr (.inr ⟨by obtain rfl | rfl := hsize; exacts [.inl rfl, .inr rfl], code, rfl⟩)
    · nofun

/-- Settles O49: a step stops at one of its checks, or ends as its instruction does. -/
theorem everyStepHasOneOutcome : Obligations.EveryStepHasOneOutcome := step_ends

/-! ### The invariant -/

/-- The part of the invariant that does not speak of the report (49 R830, 10 R40, R49). -/
structure State.Sound (s : State) : Prop where
  mem : s.mem.wf = true
  pc : s.pc.getLsbD 0 = false
  fpscr : s.fpscr &&& 0xFFC00000#32 = 0
  pending : pendingOk s.ism s.pending = true

section
variable {s t u v : State} {i : Instr}

theorem State.inv_iff : s.Inv ↔ s.Sound ∧ reportFits s.dstate s.event = true :=
  ⟨fun h => ⟨⟨h.mem, h.pc, h.fpscr, h.pending⟩, h.dstate⟩, fun ⟨h, hd⟩ => ⟨h.mem, h.pc, h.fpscr, h.pending, hd⟩⟩

/-- Registers are no part of the invariant. -/
theorem State.Sound.same (h : u.Sound) (hmem : v.mem = u.mem) (hpc : v.pc = u.pc) (hfpscr : v.fpscr = u.fpscr)
    (hism : v.ism = u.ism) (hpending : v.pending = u.pending) : v.Sound :=
  ⟨by rw [hmem]; exact h.mem, by rw [hpc]; exact h.pc, by rw [hfpscr]; exact h.fpscr,
    by rw [hism, hpending]; exact h.pending⟩

theorem getLsbD_zero_add_of_even {w : Nat} {x y : BitVec w} (hw : 0 < w) (hx : x.getLsbD 0 = false) (hy : y.getLsbD 0 = false) :
    (x + y).getLsbD 0 = false := by
  rw [BitVec.getLsbD_add hw, hx, hy, BitVec.carry_zero]; rfl

theorem State.Sound.setPC (h : u.Sound) {w : Quad} (hw : w.getLsbD 0 = false) : (u.setPC w).Sound :=
  ⟨h.mem, hw, h.fpscr, h.pending⟩

/-- An instruction has 2 or 4 bytes, so the next one is at an even address too. -/
theorem even_size {size : Quad} (hs : size = 2 ∨ size = 4) : size.getLsbD 0 = false := by
  obtain rfl | rfl := hs <;> rfl

theorem State.Sound.setFpscr (h : u.Sound) (w : Word) : (u.setFpscr w).Sound :=
  ⟨h.mem, h.pc, by
    show w &&& 0x003FFFFF#32 &&& 0xFFC00000#32 = 0
    rw [BitVec.and_assoc]
    exact BitVec.and_zero, h.pending⟩

/-- A mode switch turns a bit that is not reserved. -/
theorem State.Sound.toggle (h : u.Sound) {m : Word} (hm : m &&& 0xFFC00000#32 = 0) :
    State.Sound { u with fpscr := u.fpscr ^^^ m } :=
  ⟨h.mem, h.pc, by
    show (u.fpscr ^^^ m) &&& 0xFFC00000#32 = 0
    have hdist : (u.fpscr ^^^ m) &&& 0xFFC00000#32 = (u.fpscr &&& 0xFFC00000#32) ^^^ (m &&& 0xFFC00000#32) :=
      BitVec.eq_of_getLsbD_eq fun b _ => by
        simp only [BitVec.getLsbD_and, BitVec.getLsbD_xor, Bool.and_xor_distrib_right]
    rw [hdist, h.fpscr, hm]
    rfl, h.pending⟩

/-- A relative target of an even PC is even (42 R370). -/
theorem State.branchRel_even {k : Nat} (disp : BitVec k) (hpc : s.pc.getLsbD 0 = false) :
    (s.branchRel disp).getLsbD 0 = false := by
  have hlow : (low32 s.pc).getLsbD 0 = false := (getLsbD_low32 s.pc (by decide)).trans hpc
  have hdisp : (sx32 disp 1).getLsbD 0 = false := by rw [sx32, BitVec.getLsbD_shiftLeft]; rfl
  have hsum : (low32 s.pc + 4 + sx32 disp 1).getLsbD 0 = false :=
    getLsbD_zero_add_of_even (by decide) (getLsbD_zero_add_of_even (by decide) hlow rfl) hdisp
  rw [State.branchRel, sext64, BitVec.getLsbD_signExtend, hsum]
  rfl

theorem State.plainTarget_even {w : Quad} (hpc : s.pc.getLsbD 0 = false) (hw : s.plainTarget w) : w.getLsbD 0 = false := by
  obtain rfl | ⟨k, disp, rfl⟩ := hw
  · exact getLsbD_zero_add_of_even (by decide) hpc rfl
  · exact State.branchRel_even disp hpc

/-- The updates of a compact meaning keep it, and stay in compact mode. -/
theorem CompactWrites.sound (hs : s.Sound) (hm : s.ism = .compact) (h : CompactWrites s u) : u.Sound := by
  induction h with
  | start => exact hs
  | fpscr w _ ih => exact ih.setFpscr w
  | bankSwitch _ ih => exact ih.toggle rfl
  | sizeSwitch _ ih => exact ih.toggle rfl
  | store8 a b _ ih => exact ⟨Memory.wf_write8 _ _ _ ih.mem, ih.pc, ih.fpscr, ih.pending⟩
  | store16 a w _ ih => exact ⟨Memory.wf_write16 _ _ _ _ ih.mem, ih.pc, ih.fpscr, ih.pending⟩
  | store32 a w _ ih => exact ⟨Memory.wf_write32 _ _ _ _ ih.mem, ih.pc, ih.fpscr, ih.pending⟩
  | next hsize _ ih => exact ih.setPC (getLsbD_zero_add_of_even (by decide) ih.pc (even_size hsize))
  | jump disp => exact hs.setPC (State.branchRel_even disp hs.pc)
  | @pending u w tagged hw hu ih =>
    refine ⟨ih.mem, ih.pc, ih.fpscr, ?_⟩
    have hmode : u.ism = .compact := (hu.keeps.ism rfl).trans hm
    obtain htag | hplain := hw
    · simp [pendingOk, hmode, htag]
    · simp only [pendingOk, hmode, State.plainTarget_even hs.pc hplain, Bool.not_false, Bool.or_true, Bool.and_true]; rfl
  | reg | status | single | vbr | draw => rename_i ih; exact ih.same rfl rfl rfl rfl rfl
  | gbr | mach | macl | pr | fpul => rename_i ih; exact ih.same (by simp) (by simp) (by simp) (by simp) (by simp)

/-- A media meaning starts with no branch pending (49 R830), and its updates record none. -/
theorem MediaWrites.sound (hs : s.Sound) (hp : s.pending = none) (h : MediaWrites i s u) : u.Sound := by
  induction h with
  | start => exact hs
  | fpscr w _ ih => exact ih.setFpscr w
  | store8 a b _ ih => exact ⟨Memory.wf_write8 _ _ _ ih.mem, ih.pc, ih.fpscr, ih.pending⟩
  | store16 a w _ ih => exact ⟨Memory.wf_write16 _ _ _ _ ih.mem, ih.pc, ih.fpscr, ih.pending⟩
  | store32 a w _ ih => exact ⟨Memory.wf_write32 _ _ _ _ ih.mem, ih.pc, ih.fpscr, ih.pending⟩
  | store64 a w _ ih => exact ⟨Memory.wf_write64 _ _ _ _ ih.mem, ih.pc, ih.fpscr, ih.pending⟩
  | next _ ih => exact ih.setPC (getLsbD_zero_add_of_even (by decide) ih.pc rfl)
  | transfer a hu ih =>
    have hpend := ((hu.keeps 0xFFFFFFFF fun _ _ => rfl).pending rfl).trans hp
    refine ⟨ih.mem, ?_, ih.fpscr, ?_⟩
    · rw [State.setPCTagged_pc]; simp
    · show pendingOk _ _ = true
      rw [State.setPCTagged_pending, hpend]
      rfl
  | reg | targetReg | single => rename_i ih; exact ih.same rfl rfl rfl rfl rfl
  | control => rename_i ih; exact ih.same (by simp) (by simp) (by simp) (by simp) (by simp)

/-- However a meaning ends, the invariant is met where its updates keep it. -/
theorem Ends.inv {W : State → Prop} (hW : ∀ u, W u → u.Sound) (hs : s.Sound) (h : Ends W s t) : t.Inv := by
  cases h with
  | completed hu => exact State.inv_iff.2 ⟨(hW _ hu).same rfl rfl rfl rfl rfl, rfl⟩
  | trapped code hsize =>
    exact State.inv_iff.2 ⟨(hs.setPC (getLsbD_zero_add_of_even (by decide) hs.pc (even_size hsize))).same rfl rfl rfl rfl rfl, rfl⟩
  | _ => exact State.inv_iff.2 ⟨hs.same rfl rfl rfl rfl rfl, rfl⟩

theorem pendingOk_media {p : Option Pending} (h : pendingOk .media p = true) : p = none := by
  cases p with
  | none => rfl
  | some p => cases h

theorem exec_inv (hs : s.Sound) (hi : codeIsm (encode i) = s.ism) : Answers State.Inv (exec i s) := by
  cases hm : s.ism with
  | compact => exact (exec_compact i s (hi.trans hm)).imp fun _ h => h.inv (fun _ hu => hu.sound hs hm) hs
  | media =>
    have hp : s.pending = none := pendingOk_media (hm ▸ hs.pending)
    exact (exec_media i s (hi.trans hm)).imp fun _ h => h.inv (fun _ hu => hu.sound hs hp) hs

/-- A commit goes to an even address, and leaves no branch pending. -/
theorem State.Inv.commitPending (h : t.Inv) : t.commitPending.Inv := by
  cases hp : t.pending with
  | none => rwa [State.commitPending_none t hp]
  | some p =>
    refine ⟨by simpa using h.mem, ?_, by simpa using h.fpscr, by rw [State.commitPending_pending]; rfl, by simpa using h.dstate⟩
    rw [State.commitPending_pc hp]
    split
    · simp
    next htag =>
      have hok := h.pending
      simp only [hp, pendingOk, Bool.eq_false_iff.2 htag, Bool.false_or, Bool.and_eq_true, Bool.not_eq_true'] at hok
      exact hok.2

theorem State.Inv.stepped (h : t.Inv) : (s.stepped i t).Inv := by
  have hrec : (s.recordWrites i t).Inv :=
    ⟨by simpa using h.mem, by simpa using h.pc, by simpa using h.fpscr, by simpa using h.pending, by simpa using h.dstate⟩
  unfold State.stepped
  split
  · split
    · exact hrec.commitPending
    · exact hrec
  · exact h

end

/-- Settles O48: each check reports from the state as it is, and the updates of either encoding keep the invariant. -/
theorem invariantKeptByEveryStep : Obligations.InvariantKeptByEveryStep := by
  intro s t hs ht
  obtain ⟨hsound, -⟩ := State.inv_iff.1 hs
  have hstop {u : State} (h : u.mem = s.mem) (hpc : u.pc = s.pc) (hfpscr : u.fpscr = s.fpscr) (hism : u.ism = s.ism)
      (hpending : u.pending = s.pending) (hd : reportFits u.dstate u.event = true) : u.Inv :=
    State.inv_iff.2 ⟨hsound.same h hpc hfpscr hism hpending, hd⟩
  refine (step_outcome (fun _ => ⟨_, rfl, ?_⟩) (fun _ => ⟨_, rfl, ?_⟩) ⟨_, rfl, ?_⟩ ⟨_, rfl, ?_⟩ fun c i hf hd _ => ?_).of_next ht
  case refine_5 =>
    have hexec : State.Sound { s with dstate := .executing } := hsound.same rfl rfl rfl rfl rfl
    exact (exec_inv hexec (codeIsm_encode_of_fetch hf hd)).imp fun _ h => h.stepped
  all_goals exact hstop rfl rfl rfl rfl rfl rfl

/-- Settles O47. -/
theorem resetMeetsInvariant : Obligations.ResetMeetsInvariant :=
  ⟨rfl, rfl, rfl, rfl, rfl⟩

end Sys2Proof.Machine
end

section
/-! SUPPORT. The written masks after a step (70 R902): every bit that an instruction touches is marked, and what a write through one
register's own instruction marks. -/

namespace Sys2Proof.Machine

/-- A step reads only the state before it, so what `access` says does not depend on the dispatch state. -/
theorem access_dispatch (i : Instr) (s : State) (d : DState) : access i { s with dstate := d } = access i s := by
  cases i <;> rfl

/-- Bits marked in a list of writes are written after it. -/
theorem Written.has_markAll {w : Written} {l : List StoreBits} {x : StoreBits} (hx : x ∈ l) (hfits : x.Fits) :
    (w.markAll l).has x = true := by
  induction l generalizing w with
  | nil => cases hx
  | cons y l ih =>
    obtain rfl | hx := List.mem_cons.1 hx
    · have hmark := Written.has_iff.1 (w.has_mark_self hfits)
      exact Written.has_iff.2 fun b hb => Written.get_markAll _ l _ (hmark b hb)
    · exact ih hx

section
variable {s t u : State} {i : Instr}

/-- A step makes no written bit unwritten, and writes every bit that it changes. -/
structure CoversChanges (s t : State) : Prop where
  kept : ∀ r b, (s.written.get r).getLsbD b = true → (t.written.get r).getLsbD b = true
  changed : ∀ r b, (t.stored r).getLsbD b ≠ (s.stored r).getLsbD b → (t.written.get r).getLsbD b = true

theorem CoversChanges.of_same (hstored : t.stored = s.stored) (hwritten : t.written = s.written) : CoversChanges s t where
  kept _ _ h := hwritten ▸ h
  changed _ _ h := absurd (hstored ▸ rfl) h

theorem exec_written (ht : exec i s = .next t) : t.written = s.written := by
  cases hi : codeIsm (encode i) with
  | compact => exact ((exec_compact i s hi).of_next ht).compact_keeps.written
  | media => exact (((exec_media i s hi).of_next ht).media_keeps 0xFFFFFFFF fun _ _ => rfl).written

@[simp] theorem State.stored_commitPending (s : State) : s.commitPending.stored = s.stored := by
  funext r
  cases r <;> simp [State.stored, State.g, State.c, State.t, State.f]

@[simp] theorem State.stored_recordWrites (s t : State) (i : Instr) : (s.recordWrites i t).stored = t.stored := by
  funext r
  cases r <;> simp [State.stored, State.g, State.c, State.t, State.f]

theorem State.stored_stepped (s t : State) (i : Instr) : (s.stepped i t).stored = t.stored := by
  unfold State.stepped
  split
  · split <;> simp
  · rfl

theorem State.written_stepped (hs : s.params.resetState = .unwritten) (hd : t.dstate = .fetching) :
    (s.stepped i t).written = t.written.markAll (access i s).writes := by
  unfold State.stepped
  rw [if_pos hd]
  split <;> simp [State.recordWrites_unwritten hs]

theorem stepped_covers (hs : s.params.resetState = .unwritten) (ht : exec i { s with dstate := .executing } = .next t) :
    CoversChanges s (s.stepped i t) := by
  have hwritten : t.written = s.written := exec_written (s := { s with dstate := .executing }) ht
  have hends := (exec_touches i _).of_next ht
  by_cases hd : t.dstate = .fetching
  · obtain ⟨u, hu, rfl⟩ : ∃ u, Touches i { s with dstate := .executing } u ∧ t = { u with dstate := .fetching, event := .none } := by
      cases hends with
      | completed hu => exact ⟨_, hu, rfl⟩
      | _ => cases hd
    constructor
    · intro r b hb
      rw [State.written_stepped hs hd, hwritten]
      exact Written.get_markAll _ _ r hb
    · intro r b hb
      rw [State.stored_stepped] at hb
      obtain ⟨x, hx, hfits, rfl, hm⟩ := hu.covered r b hb
      rw [access_dispatch] at hx
      rw [State.written_stepped hs hd]
      exact Written.has_iff.1 (Written.has_markAll hx hfits) b hm
  · rw [State.stepped_of_ne hd]
    cases hends with
    | completed _ => exact absurd rfl hd
    | _ => exact .of_same rfl rfl

theorem step_covers (hs : s.params.resetState = .unwritten) : Answers (CoversChanges s) (step s) := by
  refine step_outcome (fun _ => ⟨_, rfl, .of_same rfl rfl⟩) (fun _ => ⟨_, rfl, .of_same rfl rfl⟩) ⟨_, rfl, .of_same rfl rfl⟩
    ⟨_, rfl, .of_same rfl rfl⟩ fun c i _ _ _ => ?_
  obtain ⟨t, ht, -⟩ := exec_touches i { s with dstate := .executing }
  exact ⟨t, ht, stepped_covers hs ht⟩

/-- The masks after a step that completes normally. -/
theorem step_written {c : Code} (hs : s.params.resetState = .unwritten) (hf : s.fetch = .ok c)
    (hd : decodeCode s.params.ext c = .ok i) (ht : step s = .next t) (hdt : t.dstate = .fetching) :
    t.written = s.written.markAll (access i s).writes := by
  refine Answers.of_next (P := fun t => t.dstate = .fetching → t.written = s.written.markAll (access i s).writes)
    (step_outcome (fun _ => ⟨_, rfl, nofun⟩) (fun _ => ⟨_, rfl, nofun⟩) ⟨_, rfl, nofun⟩ ⟨_, rfl, nofun⟩ ?_) ht hdt
  intro c' i' hf' hd' _
  obtain rfl : c = c' := Except.ok.inj (hf.symm.trans hf')
  obtain rfl : i = i' := Except.ok.inj (hd.symm.trans hd')
  obtain ⟨u, hu, -⟩ := exec_touches i { s with dstate := .executing }
  refine ⟨u, hu, fun h => ?_⟩
  rw [State.stepped_dstate] at h
  rw [State.written_stepped hs h, exec_written (s := { s with dstate := .executing }) hu]

end

theorem getLsbD_zext64 (v : Word) (b : Nat) : (zext64 v).getLsbD b = v.getLsbD b := by
  by_cases hb : b < 32
  · rw [zext64, BitVec.getLsbD_setWidth, decide_eq_true (by omega), Bool.true_and]
  · rw [getLsbD_zext64_of_ge v (by omega), BitVec.getLsbD_of_ge v b (by omega)]

section
variable (w : Written)

/-- mul.l marks the half of GR[17] that MACL occupies, and no other bit (10 R38). -/
theorem Written.get_mark_maclHalf : (w.mark (gprAt 17 31 0)).get (.gr 17) = w.get (.gr 17) ||| 0xFFFFFFFF := by
  have hdefault : w.gr.getD 17 0 = w.gr.getD 17 (BitVec.allOnes 64) := by simp [Vector.getD]
  calc (w.mark (gprAt 17 31 0)).get (.gr 17) = w.gr.getD 17 0 ||| 0xFFFFFFFF :=
        (getD_setIfInBounds w.gr 17 17 _ _).trans (if_pos (by decide))
    _ = w.get (.gr 17) ||| 0xFFFFFFFF := congrArg (· ||| 0xFFFFFFFF) hdefault

theorem Written.get_mark_gr_ne {d k : MReg} (hk : k ≠ d) (hi lo : Nat) : (w.mark (gprAt d hi lo)).get (.gr k) = w.get (.gr k) :=
  (getD_setIfInBounds w.gr d.toNat k.toNat _ _).trans (if_neg fun h => hk (BitVec.toNat_inj.1 h.1))

theorem Written.mark_tBit : w.mark tBit = { w with sr := w.sr ||| 1 } := rfl

theorem Written.mark_macl : w.mark (⟨.macl, bits 31 0⟩ : StoreBits) = { w with macl := BitVec.allOnes 32 } := by
  show { w with macl := w.macl ||| BitVec.allOnes 32 } = _
  rw [BitVec.or_allOnes]

theorem Written.mark_vbr : w.mark vbrBits = { w with vbr := BitVec.allOnes 32 } := by
  show { w with vbr := w.vbr ||| BitVec.allOnes 32 } = _
  rw [BitVec.or_allOnes]

theorem Written.markAll_entryBits : w.markAll entryBits = { w with pc := BitVec.allOnes 64, ism := 1 } := by
  show { w with pc := w.pc ||| BitVec.allOnes 64, ism := w.ism ||| BitVec.allOnes 1 } = _
  rw [BitVec.or_allOnes, BitVec.or_allOnes]
  rfl

end

/-- Settles O55: every register's part of `CoversChanges`, and the marks of a few instructions and of a host write. -/
theorem writtenBitsCoverChanges : Obligations.WrittenBitsCoverChanges := by
  intro s t c i hs
  refine ⟨fun ht => ?covers, fun hf hd hp ht hdt => ?marks, fun _ => Written.markAll_entryBits s.written,
    fun _ => Written.mark_tBit s.written⟩
  case covers =>
    obtain ⟨hkept, hchanged⟩ := (step_covers hs).of_next ht
    have hword (r : Store) {x y : Word} (hx : t.stored r = zext64 x) (hy : s.stored r = zext64 y) (b : Nat)
        (hb : x.getLsbD b ≠ y.getLsbD b) : (t.written.get r).getLsbD b = true :=
      hchanged r b (by rwa [hx, hy, getLsbD_zext64, getLsbD_zext64])
    refine ⟨hkept, fun k => hchanged (.gr k), hword .sr rfl rfl, fun k b hk hb => hchanged (.cr k) b ?_, fun k => hchanged (.tr k),
      fun k => hword (.fr k) rfl rfl, hword .fpscr rfl rfl, hword .vbr rfl rfl, hword .gbr rfl rfl, hword .mach rfl rfl,
      hword .macl rfl rfl, hword .pr rfl rfl, hword .fpul rfl rfl⟩
    rwa [State.stored, State.stored, if_neg hk, if_neg hk]
  case marks =>
    have hw := step_written hs hf hd ht hdt
    refine ⟨?sett, ?aliased, ?separate, ?ldc⟩
    case sett => rintro rfl; exact hw.trans (Written.mark_tBit _)
    case aliased =>
      rintro m n ha rfl
      have hmacl : s.maclBits = gprAt 17 31 0 := by rw [State.maclBits, ha]
      have hmark : t.written = s.written.mark (gprAt 17 31 0) := hmacl ▸ hw
      rw [hmark]
      exact ⟨s.written.get_mark_maclHalf, rfl, rfl, fun k hk => s.written.get_mark_gr_ne hk 31 0⟩
    case separate =>
      rintro m n ha rfl
      have hmacl : s.maclBits = ⟨.macl, bits 31 0⟩ := by rw [State.maclBits, ha]
      have hmark : t.written = s.written.mark ⟨.macl, bits 31 0⟩ := hmacl ▸ hw
      rw [hmark, Written.mark_macl]
    case ldc => rintro m rfl; exact hw.trans (Written.mark_vbr _)

end Sys2Proof.Machine
end

section
/-! SUPPORT. What a step refuses under `RESET_STATE = unwritten` (70 R902): the bits that an instruction reads, as the bits named one by
one, and the two ways of a decoded instruction with no branch pending. -/

namespace Sys2Proof.Machine

section
variable {s : State} {c : Code} {i : Instr}

theorem State.has_iff_bitsWritten {r : Store} {hi lo : Nat} (h : hi < 64) :
    s.written.has ⟨r, bits hi lo⟩ = true ↔ s.BitsWritten r hi lo := by
  rw [Written.has_iff]
  exact ⟨fun hw b hlo hhi => hw b ((getLsbD_bits hi lo b).2 ⟨hlo, hhi, by omega⟩),
    fun hw b hb => have ⟨hlo, hhi, _⟩ := (getLsbD_bits hi lo b).1 hb; hw b hlo hhi⟩

theorem Written.hasAll_iff {w : Written} {l : List StoreBits} : w.hasAll l = true ↔ ∀ x ∈ l, w.has x = true := List.all_eq_true

theorem State.bitsWritten_split {r : Store} {hi mid lo : Nat} (hlo : lo ≤ mid) (hhi : mid < hi) :
    s.BitsWritten r hi lo ↔ s.BitsWritten r hi (mid + 1) ∧ s.BitsWritten r mid lo := by
  constructor
  · exact fun h => ⟨fun b hb hb' => h b (by omega) hb', fun b hb hb' => h b hb (by omega)⟩
  · rintro ⟨hhigh, hlow⟩ b hb hb'
    obtain h | h : mid + 1 ≤ b ∨ b ≤ mid := by omega
    · exact hhigh b h hb'
    · exact hlow b hb h

/-! ### The ways of a step -/

theorem State.entryUnwritten_iff (hs : s.params.resetState = .unwritten) :
    s.entryUnwritten = false ↔ s.BitsWritten .pc 63 0 ∧ s.BitsWritten .ism 0 0 := by
  rw [← State.has_iff_bitsWritten (by decide), ← State.has_iff_bitsWritten (by decide)]
  simp [State.entryUnwritten, State.tracks_unwritten hs, Written.hasAll, entryBits]

theorem stepRefusedAt_entry (h : s.entryUnwritten = true) : StepRefusedAt s 0 := step_entryUnwritten h

theorem State.readsUnwritten_eq (hs : s.params.resetState = .unwritten) :
    s.readsUnwritten i = !s.written.hasAll (access i s).reads := by
  rw [State.readsUnwritten, State.tracks_unwritten hs, Bool.true_and]

theorem stepRefusedAt_reads (hs : s.params.resetState = .unwritten) (he : s.entryUnwritten = false) (hf : s.fetch = .ok c)
    (hd : decodeCode s.params.ext c = .ok i) (hp : s.pending = none) (h : s.written.hasAll (access i s).reads = false) :
    StepRefusedAt s s.taggedPC :=
  step_readsUnwritten he hf hd (by simp [hp]) (by simp [State.readsUnwritten_eq hs, h])

theorem stepRuns_of_reads (hs : s.params.resetState = .unwritten) (he : s.entryUnwritten = false) (hf : s.fetch = .ok c)
    (hd : decodeCode s.params.ext c = .ok i) (hp : s.pending = none) (h : s.written.hasAll (access i s).reads = true) :
    StepRuns s i := fun t ht => by
  rw [step_of_exec he hf hd (by simp [hp]) (by simp [State.readsUnwritten_eq hs, h]) ht, State.stepped_none hp]

end

/-! ### The bits that an instruction reads, named one by one -/

/-- A register and the bits `hi:lo` of it. -/
abbrev NamedBits := Store × Nat × Nat

/-- The bits named, as a mask. -/
def NamedBits.mask (x : NamedBits) : StoreBits := ⟨x.1, bits x.2.1 x.2.2⟩

/-- The bits that the instruction reads are written exactly when the bits named are. -/
def ReadsAre (s : State) (p : Instr × List NamedBits) : Prop :=
  s.written.hasAll (access p.1 s).reads = true ↔ ∀ x ∈ p.2, s.BitsWritten x.1 x.2.1 x.2.2

theorem readsAre_of_eq {s : State} {p : Instr × List NamedBits} (h : (access p.1 s).reads = p.2.map NamedBits.mask)
    (h64 : (p.2.all fun x => x.2.1 < 64) = true) : ReadsAre s p := by
  rw [ReadsAre, h, Written.hasAll_iff, List.forall_mem_map]
  exact forall₂_congr fun x hx => State.has_iff_bitsWritten (by simpa using List.all_eq_true.1 h64 x hx)

section
variable {s : State} {m n : CReg}

/-- div1 reads T, Q and M: Q and M lie side by side (10 R36). -/
theorem readsAre_cDiv1 : ReadsAre s (.cDiv1 m n, [(.gr (creg m), 31, 0), (.gr (creg n), 31, 0), (.sr, 0, 0), (.sr, 9, 8)]) := by
  have hbits := readsAre_of_eq (s := s)
    (p := (.cDiv1 m n, [(.gr (creg m), 31, 0), (.gr (creg n), 31, 0), (.sr, 8, 8), (.sr, 9, 9), (.sr, 0, 0)])) rfl rfl
  refine hbits.trans ?_
  have hsplit : s.BitsWritten .sr 9 8 ↔ s.BitsWritten .sr 9 9 ∧ s.BitsWritten .sr 8 8 :=
    State.bitsWritten_split (by decide) (by decide)
  simp only [List.forall_mem_cons, hsplit]
  tauto

/-- mac.l reads the whole of GR[17], where both halves of the accumulator are kept (10 R38). -/
theorem readsAre_cMacL (hst : s.params.storage = .aliased) :
    ReadsAre s (.cMacL m n, [(.gr (creg m), 31, 0), (.gr (creg n), 31, 0), (.sr, 1, 1), (.gr 17, 63, 0)]) := by
  have hreads : (access (.cMacL m n) s).reads = [grc m, grc n, sBit, gprAt 17 63 32, gprAt 17 31 0] := by
    show [grc m, grc n, sBit] ++ [s.machBits, s.maclBits] = _
    simp only [State.machBits, State.maclBits, hst]
    rfl
  have hbits := readsAre_of_eq (s := s)
    (p := (.cMacL m n, [(.gr (creg m), 31, 0), (.gr (creg n), 31, 0), (.sr, 1, 1), (.gr 17, 63, 32), (.gr 17, 31, 0)]))
    hreads rfl
  refine hbits.trans ?_
  have hsplit : s.BitsWritten (.gr 17) 63 0 ↔ s.BitsWritten (.gr 17) 63 32 ∧ s.BitsWritten (.gr 17) 31 0 :=
    State.bitsWritten_split (by decide) (by decide)
  simp only [List.forall_mem_cons, hsplit]
  tauto

/-- The bank that FPSCR.FR = 0 selects is FR0 to FR15 (10 R50). -/
theorem State.bank_eq_creg (hfr : s.fpFR = false) (n : CReg) : s.bank n = creg n := by
  rw [State.bank, hfr]
  revert n; decide

/-- A single-precision fadd reads its two registers after the mode bits of FPSCR. -/
theorem readsAre_cFadd (hpr : s.fpPR = false) (hfr : s.fpFR = false) :
    ReadsAre s (.cFadd m n, [(.fpscr, 21, 19), (.fr (creg m), 31, 0), (.fr (creg n), 31, 0)]) := by
  have hreads : (access (.cFadd m n) s).reads = [⟨.fpscr, bits 21 19⟩, single (creg n), single (creg m)] := by
    show (withMode (onlyIf (!s.fpPR || evenC n && evenC m) ⟨s.cfpBits n ++ s.cfpBits m, _⟩)).reads = _
    simp [withMode, onlyIf, hpr, State.cfpBits, State.cfBits, State.bank_eq_creg hfr]
  have hbits := readsAre_of_eq (s := s)
    (p := (.cFadd m n, [(.fpscr, 21, 19), (.fr (creg n), 31, 0), (.fr (creg m), 31, 0)])) hreads rfl
  refine hbits.trans ?_
  simp only [List.forall_mem_cons]
  tauto

end

/-! Each group of lines: the list that `access` gives is the list of the bits named, line by line. -/

theorem forall_mem_cons_of_eq {s : State} {p : Instr × List NamedBits} {l : List (Instr × List NamedBits)}
    (h : (access p.1 s).reads = p.2.map NamedBits.mask) (h64 : (p.2.all fun x => x.2.1 < 64) = true)
    (hl : ∀ q ∈ l, ReadsAre s q) : ∀ q ∈ p :: l, ReadsAre s q := List.forall_mem_cons.2 ⟨readsAre_of_eq h h64, hl⟩

section
variable {s : State} {m n : CReg}

/-- The special registers kept in GR16 to GR18 and FR32 (10 R38, R51). -/
theorem forall_readsAre_aliased (hst : s.params.storage = .aliased) :
    ∀ p ∈ ([(.cRts, [(.gr 18, 31, 0)]), (.cStsMacl n, [(.gr 17, 31, 0)]), (.cStsMach n, [(.gr 17, 63, 32)]),
      (.cStcGbr n, [(.gr 16, 31, 0)]), (.cStsFpul n, [(.fpscr, 21, 19), (.fr 32, 31, 0)]),
      (.cMacL m n, [(.gr (creg m), 31, 0), (.gr (creg n), 31, 0), (.sr, 1, 1), (.gr 17, 63, 0)])] :
      List (Instr × List NamedBits)), ReadsAre s p := by
  have hpr : s.prBits = gprAt 18 31 0 := by rw [State.prBits, hst]
  have hmacl : s.maclBits = gprAt 17 31 0 := by rw [State.maclBits, hst]
  have hmach : s.machBits = gprAt 17 63 32 := by rw [State.machBits, hst]
  have hgbr : s.gbrBits = gprAt 16 31 0 := by rw [State.gbrBits, hst]
  have hfpul : s.fpulBits = single 32 := by rw [State.fpulBits, hst]
  refine forall_mem_cons_of_eq (congrArg ([·]) hpr) rfl ?_
  refine forall_mem_cons_of_eq (congrArg ([·]) hmacl) rfl ?_
  refine forall_mem_cons_of_eq (congrArg ([·]) hmach) rfl ?_
  refine forall_mem_cons_of_eq (congrArg ([·]) hgbr) rfl ?_
  refine forall_mem_cons_of_eq (congrArg (fun x => ([⟨.fpscr, bits 21 19⟩, x] : List StoreBits)) hfpul) rfl ?_
  exact List.forall_mem_cons.2 ⟨readsAre_cMacL hst, List.forall_mem_nil _⟩

/-- The special registers kept in registers of their own. -/
theorem forall_readsAre_separate (hst : s.params.storage = .separate) :
    ∀ p ∈ ([(.cRts, [(.pr, 31, 0)]), (.cStsMacl n, [(.macl, 31, 0)]), (.cStsMach n, [(.mach, 31, 0)]),
      (.cStcGbr n, [(.gbr, 31, 0)]), (.cStsFpul n, [(.fpscr, 21, 19), (.fpul, 31, 0)]),
      (.cMacL m n, [(.gr (creg m), 31, 0), (.gr (creg n), 31, 0), (.sr, 1, 1), (.mach, 31, 0), (.macl, 31, 0)])] :
      List (Instr × List NamedBits)), ReadsAre s p := by
  have hpr : s.prBits = ⟨.pr, bits 31 0⟩ := by rw [State.prBits, hst]
  have hmacl : s.maclBits = ⟨.macl, bits 31 0⟩ := by rw [State.maclBits, hst]
  have hmach : s.machBits = ⟨.mach, bits 31 0⟩ := by rw [State.machBits, hst]
  have hgbr : s.gbrBits = ⟨.gbr, bits 31 0⟩ := by rw [State.gbrBits, hst]
  have hfpul : s.fpulBits = ⟨.fpul, bits 31 0⟩ := by rw [State.fpulBits, hst]
  have hmac : s.macBits = [⟨.mach, bits 31 0⟩, ⟨.macl, bits 31 0⟩] := by rw [State.macBits, hmach, hmacl]
  refine forall_mem_cons_of_eq (congrArg ([·]) hpr) rfl ?_
  refine forall_mem_cons_of_eq (congrArg ([·]) hmacl) rfl ?_
  refine forall_mem_cons_of_eq (congrArg ([·]) hmach) rfl ?_
  refine forall_mem_cons_of_eq (congrArg ([·]) hgbr) rfl ?_
  refine forall_mem_cons_of_eq (congrArg (fun x => ([⟨.fpscr, bits 21 19⟩, x] : List StoreBits)) hfpul) rfl ?_
  refine forall_mem_cons_of_eq (congrArg ([grc m, grc n, sBit] ++ ·) hmac) rfl ?_
  exact List.forall_mem_nil _

/-- The compact FP instructions that single precision admits, in the bank that FPSCR.FR = 0 selects. -/
theorem forall_readsAre_single (hpr : s.fpPR = false) (hfr : s.fpFR = false) :
    ∀ p ∈ ([(.cFadd m n, [(.fpscr, 21, 19), (.fr (creg m), 31, 0), (.fr (creg n), 31, 0)]), (.cFldi1 n, [(.fpscr, 21, 19)]),
      (.cFrchg, [(.fpscr, 21, 19)]), (.cFschg, [(.fpscr, 21, 19)]), (.cLdsFpscr m, [(.fpscr, 21, 19), (.gr (creg m), 21, 0)])] :
      List (Instr × List NamedBits)), ReadsAre s p := by
  have hadmitted (a : Access) : onlyIf (!s.fpPR) a = a := by rw [hpr]; rfl
  have hmode (a : Access) : (withMode (onlyIf (!s.fpPR) a)).reads = ⟨.fpscr, bits 21 19⟩ :: a.reads := by rw [hadmitted]; rfl
  refine List.forall_mem_cons.2 ⟨readsAre_cFadd hpr hfr, ?_⟩
  refine forall_mem_cons_of_eq (hmode _) rfl ?_
  refine forall_mem_cons_of_eq (hmode _) rfl ?_
  refine forall_mem_cons_of_eq (hmode _) rfl ?_
  exact forall_mem_cons_of_eq rfl rfl (List.forall_mem_nil _)

end

/-! ### After `Reset()` -/

theorem getD_replicate {α : Type} (n i : Nat) (x : α) : (Vector.replicate n x).getD i x = x := by
  by_cases hi : i < n <;> simp [Vector.getD, hi]

/-- Every register reads 0 after `Reset()` (70 R901, log 1), whatever it keeps of the state before. -/
theorem hostReset_g (s : State) (k : MReg) : (hostReset s).g k = 0 := getD_replicate 63 _ 0

theorem hostReset_f (s : State) (k : MReg) : (hostReset s).f k = 0 := getD_replicate 64 _ 0

theorem hostReset_t (s : State) (a : TReg) : (hostReset s).t a = 0 := getD_replicate 8 _ 0

theorem hostReset_c (s : State) (k : MReg) : (hostReset s).c k = 0 := by
  unfold State.c
  split
  · rfl
  · exact getD_replicate 63 _ 0

/-- Settles O46: the reset state reads as any state does after `Reset()`. -/
theorem resetLeavesZero : Obligations.ResetLeavesZero :=
  ⟨hostReset_g .reset, hostReset_c .reset, hostReset_t .reset, hostReset_f .reset, fun _ => rfl, rfl, rfl, rfl, rfl, rfl, rfl, rfl,
    rfl, rfl, rfl, rfl⟩

theorem zipWith_and_replicate {w n : Nat} (v : Vector (BitVec w) n) :
    (Vector.replicate n 0#w).zipWith (· &&& ·) v = Vector.replicate n 0#w :=
  Vector.ext fun i hi => by simp

/-- The masks take nothing from a register that is 0. -/
theorem known_hostReset (s : State) : (hostReset s).known = hostReset s := by
  cases hs : s.params.resetState with
  | zero => simp only [State.known, hostReset, hs]
  | unwritten =>
    simp only [State.known, hostReset, hs, State.reset, BitVec.ofNat_eq_ofNat, zipWith_and_replicate, BitVec.zero_and]
    rfl

/-- The host reads 0 from every register after `Reset()` (70 R902). -/
theorem readReg_hostReset (s : State) (r : RegName) : readReg (hostReset s) r = 0 := by
  rw [readReg, known_hostReset]
  cases r with
  | gr k => exact hostReset_g s k
  | cr k => exact hostReset_c s k
  | tr a => exact hostReset_t s a
  | fr k => exact congrArg zext64 (hostReset_f s k)
  | gbr | pr | mach | macl | fpul =>
    simp only [storedReg, State.getGbr, State.getPr, State.getMach, State.getMacl, State.getFpul, hostReset_g, hostReset_f]
    split <;> rfl
  | fpscr | sr | vbr => rfl
  | pc => exact (by decide : tagPc 0 .compact = 0)
  | flagT | flagS | flagQ | flagM => exact congrArg (truth 64) BitVec.getLsbD_zero

/-- Settles O54: the masks decide whether the step is refused, and each line names the bits that its instruction reads. -/
theorem unwrittenReadsAreRefused : Obligations.UnwrittenReadsAreRefused := by
  intro s c i hs
  refine ⟨fun hentry => ?entry, fun hpc hism hf hd hp => ?decoded, ?masks, rfl, readReg_hostReset s, fun k => State.known_g hs k,
    fun b _ hb => ?gr63⟩
  case entry => exact stepRefusedAt_entry (Bool.not_eq_false _ ▸ mt (State.entryUnwritten_iff hs).1 hentry)
  case masks => simp only [hostReset, hs]
  case gr63 =>
    have hall : s.written.get (.gr 63) = BitVec.allOnes 64 := by simp [Written.get, Vector.getD]
    rw [hall, BitVec.getLsbD_allOnes, decide_eq_true (by omega)]
  case decoded =>
    have he := (State.entryUnwritten_iff hs).2 ⟨hpc, hism⟩
    have hrefused := stepRefusedAt_reads hs he hf hd hp
    have hruns := stepRuns_of_reads hs he hf hd hp
    refine ⟨hrefused, hruns, fun m n g h k a d u l reads hline => ?lines⟩
    have hreads : ReadsAre s (i, reads) := by
      obtain hline | ⟨hst, hline⟩ | ⟨hst, hline⟩ | ⟨hpr, hfr, hline⟩ := hline
      · refine (?_ : ∀ p ∈ _, ReadsAre s p) _ hline
        repeat refine forall_mem_cons_of_eq rfl rfl ?_
        refine List.forall_mem_cons.2 ⟨readsAre_cDiv1, ?_⟩
        repeat refine forall_mem_cons_of_eq rfl rfl ?_
        exact List.forall_mem_nil _
      · exact forall_readsAre_aliased hst _ hline
      · exact forall_readsAre_separate hst _ hline
      · exact forall_readsAre_single hpr hfr _ hline
    refine ⟨fun hw => hruns (hreads.2 hw), fun hw => hrefused (Bool.eq_false_iff.2 (mt hreads.1 hw))⟩

end Sys2Proof.Machine
end

section
/-! SUPPORT. The media floating-point instructions where their fields meet 48 R751: a check that passes leaves the one write, load or
store of the form (48 R755 to R809). -/

namespace Sys2Proof.Machine

/-! ### The checks of 48 R751 -/

theorem evenF_of_even {d : MReg} (hd : d.toNat % 2 = 0) : evenF d = true := by revert d; decide

theorem mult4_of_mod_eq {d : MReg} (hd : d.toNat % 4 = 0) : mult4 d = true := by revert d; decide

theorem mult16_of_mod_eq {d : MReg} (hd : d.toNat % 16 = 0) : mult16 d = true := by revert d; decide

section
variable {i : Instr} {s : State} {g h f : MReg} {b : Bool} {v : Quad} {w : Word} {k : Result}

/-- The two source fields of a one-operand form are the same. -/
theorem same_field (g : MReg) : (g == g) = true := beq_self_eq_true g

theorem same_field_and (g : MReg) {b : Bool} (hb : b = true) : ((g == g) && b) = true := by rw [same_field, Bool.true_and, hb]

theorem even_both (hg : g.toNat % 2 = 0) (hf : f.toNat % 2 = 0) : (evenF g && evenF f) = true := by
  rw [evenF_of_even hg, evenF_of_even hf, Bool.and_true]

theorem same_even_both (hg : g.toNat % 2 = 0) (hf : f.toNat % 2 = 0) : ((g == g) && evenF g && evenF f) = true := by
  rw [same_field, evenF_of_even hg, evenF_of_even hf, Bool.and_true, Bool.and_true]

theorem even_all (hg : g.toNat % 2 = 0) (hh : h.toNat % 2 = 0) (hf : f.toNat % 2 = 0) :
    (evenF g && evenF h && evenF f) = true := by
  rw [even_both hg hh, evenF_of_even hf, Bool.and_true]

/-! ### A checked form that writes one register or a pair -/

theorem putsF_require (he : exec i s = s.require b ((s.setF f w).retire 4)) (hb : b = true) : PutsF i s 4 f w :=
  putsF_of (he.trans (State.require_ok hb))

theorem putsD_require (he : exec i s = s.require b ((s.setD f v).retire 4)) (hb : b = true) : PutsD i s 4 f v :=
  putsD_of (he.trans (State.require_ok hb))

theorem putsG_require (he : exec i s = s.require b (s.putG f v)) (hb : b = true) : PutsG i s f v :=
  putsG_of (he.trans (State.require_ok hb))

end

/-- Settles O31: each form is one write of the helper's result, behind the check that its fields meet. -/
theorem mediaFpArithmeticAndCompare : Obligations.MediaFpArithmeticAndCompare := by
  intro s g h f
  refine ⟨?abs, ?neg, ?add, ?sub, ?div, ?mul, fun hg hf => ⟨?absD, ?negD, fun hh => ⟨?addD, ?subD, ?divD, ?mulD⟩⟩, ?mac, ?sqrt,
    fun hg hf => ?sqrtD, ?eq, ?un, ?gt, ?ge, fun hg hh => ⟨?eqD, ?unD, ?gtD, ?geD⟩⟩
  case abs => exact putsF_require rfl (same_field g)
  case neg => exact putsF_require rfl (same_field g)
  case sqrt => exact putsF_require rfl (same_field g)
  case add => exact putsF_of rfl
  case sub => exact putsF_of rfl
  case div => exact putsF_of rfl
  case mul => exact putsF_of rfl
  case mac => exact putsF_of rfl
  case absD => exact putsD_require rfl (same_even_both hg hf)
  case negD => exact putsD_require rfl (same_even_both hg hf)
  case sqrtD => exact putsD_require rfl (same_even_both hg hf)
  case addD => exact putsD_require rfl (even_all hg hh hf)
  case subD => exact putsD_require rfl (even_all hg hh hf)
  case divD => exact putsD_require rfl (even_all hg hh hf)
  case mulD => exact putsD_require rfl (even_all hg hh hf)
  case eq => exact putsG_of rfl
  case un => exact putsG_of rfl
  case gt => exact putsG_of rfl
  case ge => exact putsG_of rfl
  case eqD => exact putsG_require rfl (even_both hg hh)
  case unD => exact putsG_require rfl (even_both hg hh)
  case gtD => exact putsG_require rfl (even_both hg hh)
  case geD => exact putsG_require rfl (even_both hg hh)

/-- Settles O32: a single is one register, a double a pair with an even field, on the side of the source, of the result or of both. -/
theorem mediaFpMoveConvert : Obligations.MediaFpMoveConvert := by
  intro s g f
  have hsame := same_field g
  refine ⟨putsF_require rfl hsame, putsF_require rfl hsame, putsF_require rfl hsame, fun hf => ?toDouble,
    fun hg => ⟨?narrow, ?truncate, ?float, fun hf => ?doubles⟩⟩
  case toDouble =>
    have hok := same_field_and g (evenF_of_even hf)
    exact ⟨putsD_require rfl hok, putsD_require rfl hok, putsD_require rfl hok⟩
  case narrow => exact putsF_require rfl (same_field_and g (evenF_of_even hg))
  case truncate => exact putsF_require rfl (same_field_and g (evenF_of_even hg))
  case float => exact putsF_require rfl (same_field_and g (evenF_of_even hg))
  case doubles =>
    have hok := same_even_both hg hf
    exact ⟨putsD_require rfl hok, putsD_require rfl hok, putsD_require rfl hok⟩

/-! ### FPSCR, vectors and the matrix (48 R794 to R797) -/

/-- A write to FPSCR keeps the 22 bits that it has (10 R49). -/
theorem and_fpscrMask_toNat (v : Word) : (v &&& 0x003FFFFF#32).toNat = v.toNat % 2 ^ 22 := by
  rw [BitVec.toNat_and, show (0x003FFFFF#32).toNat = 2 ^ 22 - 1 from rfl, Nat.and_two_pow_sub_one_eq_mod]

section
variable {s : State} {g h f : MReg}

theorem runs_mFputscr : Runs (.mFputscr g g) s (s.pc + 4) { fpscr := true } fun t => t.fpscr.toNat = (s.f g).toNat % 2 ^ 22 :=
  runs_retire (State.require_ok (same_field g)) rfl ((Keeps.refl _ s).setFpscr _ rfl) (and_fpscrMask_toNat _)

theorem runs_mFtrvS (hg : g.toNat % 16 = 0) (hh : h.toNat % 4 = 0) (hf : f.toNat % 4 = 0) :
    Runs (.mFtrvS g h f) s (s.pc + 4) { fr := [f, f + 1, f + 2, f + 3] } fun t => ∀ k : Nat, k < 4 →
      t.f (f + BitVec.ofNat 6 k) = fMtrx (s.mtrx g) (s.fv h) k := by
  have hok : (mult16 g && mult4 h && mult4 f) = true := by
    rw [mult16_of_mod_eq hg, mult4_of_mod_eq hh, mult4_of_mod_eq hf]; rfl
  have hplace (k : BitVec 2) : f + k.setWidth 6 ∈ [f, f + 1, f + 2, f + 3] := by
    obtain rfl | rfl | rfl | rfl : k = 0 ∨ k = 1 ∨ k = 2 ∨ k = 3 := by revert k; decide
    all_goals simp
  refine runs_retire (State.require_ok hok) (by simp) ((Keeps.refl _ s).setFv _ hplace) fun k hk => ?_
  have hread := s.f_setFv f (fMtrx (s.mtrx g) (s.fv h)) (BitVec.ofNat 2 k)
  have hk2 : (BitVec.ofNat 2 k).toNat = k := by rw [BitVec.toNat_ofNat]; omega
  have hk6 : (BitVec.ofNat 2 k).setWidth 6 = BitVec.ofNat 6 k := BitVec.eq_of_toNat_eq (by
    rw [BitVec.toNat_setWidth, hk2, BitVec.toNat_ofNat])
  rw [hk2, hk6] at hread
  exact hread

end

/-- Settles O33: each form is one write of a register, of FPSCR or of four registers, behind the check that its fields meet. -/
theorem mediaFpRegistersVectors : Obligations.MediaFpRegistersVectors := by
  intro s g h f
  refine ⟨putsG_require rfl (same_field g), fun hg => putsG_require rfl (same_field_and g (evenF_of_even hg)), putsF_of rfl,
    fun hf => putsD_require rfl (evenF_of_even hf), putsF_of rfl, runs_mFputscr, fun hg hh => ?dot, runs_mFtrvS⟩
  case dot =>
    have hok : (mult4 g && mult4 h) = true := by rw [mult4_of_mod_eq hg, mult4_of_mod_eq hh]; rfl
    exact putsF_require rfl hok

/-! ### Loads and stores (48 R798 to R809) -/

section
variable {i : Instr} {s : State} {a : Quad} {f : MReg}

theorem putsF_load (he : exec i s = s.load32 a fun v => (s.setF f v).retire 4) (ha : s.readFault a 4 = none) :
    PutsF i s 4 f (s.read32 a) :=
  putsF_of (he.trans (State.checkRead_ok ha))

theorem putsD_load (he : exec i s = s.require (evenF f) (s.load64 a fun v => (s.setD f v).retire 4)) (hf : f.toNat % 2 = 0)
    (ha : s.readFault a 8 = none) : PutsD i s 4 f (s.read64 a) :=
  putsD_of (he.trans ((State.require_even hf).trans (State.checkRead_ok ha)))

theorem runs_storeD (he : exec i s = s.require (evenF f) (s.mstore64 a (s.d f))) (hf : f.toNat % 2 = 0)
    (ha : s.writeFault a 8 = none) :
    Runs i s (s.pc + 4) { mem := bytesFrom a 8 } fun t => t.read64 a = s.f f ++ s.f (f + 1) :=
  runs_mstore64 (he.trans (State.require_even hf)) ha

theorem putsD_loadPair (he : exec i s = s.require (evenF f) (s.loadPair a fun v => (s.setD f v).retire 4))
    (hf : f.toNat % 2 = 0) (ha : s.pairFault s.readFault a = none) : PutsD i s 4 f (s.read32 a ++ s.read32 (a + 4)) :=
  putsD_of (he.trans ((State.require_even hf).trans (State.loadPair_ok ha)))

theorem runs_storePairD (he : exec i s = s.require (evenF f) (s.checkPair a ((s.writePair a (s.d f)).retire 4)))
    (hf : f.toNat % 2 = 0) (ha : s.pairFault s.writeFault a = none) :
    Runs i s (s.pc + 4) { mem := bytesFrom a 8 } fun t => t.read32 a = s.f f ∧ t.read32 (a + 4) = s.f (f + 1) :=
  runs_storePair (he.trans (State.require_even hf)) ha

end

/-- Settles O34: each form is the load or the store of its size at the model's address, which is the one the rule gives. -/
theorem mediaFpMemory : Obligations.MediaFpMemory := by
  intro s m n f imm a4 a8 ax
  simp only [ofInt_mul_four, ofInt_mul_eight]
  rintro rfl rfl rfl
  refine ⟨putsF_load rfl, putsF_load rfl, runs_mstore32 rfl, runs_mstore32 rfl, fun hf => ⟨putsD_load rfl hf, putsD_load rfl hf,
    runs_storeD rfl hf, runs_storeD rfl hf, fun hal => ⟨fun hlow hhigh => ?ldp, fun hlow hhigh => ?stp⟩,
    fun hal => ⟨fun hlow hhigh => ?ldxp, fun hlow hhigh => ?stxp⟩⟩⟩
  case ldp => exact putsD_loadPair rfl hf (State.pairFault_eq_none.2 ⟨hal, hlow, hhigh⟩)
  case stp => exact runs_storePairD rfl hf (State.pairFault_eq_none.2 ⟨hal, hlow, hhigh⟩)
  case ldxp => exact putsD_loadPair rfl hf (State.pairFault_eq_none.2 ⟨hal, hlow, hhigh⟩)
  case stxp => exact runs_storePairD rfl hf (State.pairFault_eq_none.2 ⟨hal, hlow, hhigh⟩)

end Sys2Proof.Machine
end

section
/-! SUPPORT. What a floating-point pattern stands for (00 R17, 48 R733): the fields of a pattern put together, the value of a finite
one, and what `unpack` makes of it. -/

namespace Sys2Proof.Machine

/-- The sign of a value as a factor. -/
def signFactor (neg : Bool) : ℚ := if neg then -1 else 1

/-- A format with at least one bit of fraction and two of exponent, as both of the spec are. -/
structure FFormat.Wide (f : FFormat) : Prop where
  frac : 1 ≤ f.frac
  exp : 2 ≤ f.exp

theorem binary32_wide : binary32.Wide := ⟨by decide, by decide⟩

theorem binary64_wide : binary64.Wide := ⟨by decide, by decide⟩

/-- The greatest finite patterns have the exponent field `2^exp - 2`, so their last place is `2^(eMin + maxStep)`. -/
def FFormat.maxStep (f : FFormat) : Nat := 2 ^ f.exp - 3

section
variable {f : FFormat}

/-! ### The fields of a pattern -/

/-- A pattern put together from its sign, exponent and fraction fields. -/
def FFormat.pattern (f : FFormat) (neg : Bool) (b t : Nat) : Nat := neg.toNat * 2 ^ (f.exp + f.frac) + (b * 2 ^ f.frac + t)

variable {neg : Bool} {b t : Nat}

theorem FFormat.pattern_eq : f.pattern neg b t = (neg.toNat * 2 ^ f.exp + b) * 2 ^ f.frac + t := by
  rw [FFormat.pattern, Nat.pow_add]; ring

theorem FFormat.fraction_pattern (ht : t < 2 ^ f.frac) : f.fraction (f.pattern neg b t) = t := by
  rw [FFormat.fraction, FFormat.pattern_eq, Nat.mul_add_mod_of_lt ht]

theorem FFormat.pattern_div (ht : t < 2 ^ f.frac) : f.pattern neg b t / 2 ^ f.frac = neg.toNat * 2 ^ f.exp + b := by
  rw [FFormat.pattern_eq, Nat.mul_comm, Nat.mul_add_div (Nat.two_pow_pos _), Nat.div_eq_of_lt ht, Nat.add_zero]

theorem FFormat.biased_pattern (hb : b < 2 ^ f.exp) (ht : t < 2 ^ f.frac) : f.biased (f.pattern neg b t) = b := by
  rw [FFormat.biased, FFormat.pattern_div ht, Nat.mul_add_mod_of_lt hb]

theorem FFormat.sign_pattern (hb : b < 2 ^ f.exp) (ht : t < 2 ^ f.frac) : f.sign (f.pattern neg b t) = neg := by
  have hdiv : f.pattern neg b t / 2 ^ (f.exp + f.frac) = neg.toNat := by
    rw [Nat.add_comm, Nat.pow_add, ← Nat.div_div_eq_div_mul, FFormat.pattern_div ht, Nat.mul_comm,
      Nat.mul_add_div (Nat.two_pow_pos _), Nat.div_eq_of_lt hb, Nat.add_zero]
  rw [FFormat.sign, hdiv]
  cases neg <;> rfl

/-! ### The value of a finite pattern -/

/-- The significand of a pattern as an integer, with the leading 1 of a normal one (48 R733). -/
def FFormat.significand (f : FFormat) (x : Nat) : Nat := if f.biased x = 0 then f.fraction x else 2 ^ f.frac + f.fraction x

/-- How far the last place of a pattern is above that of the subnormals. -/
def FFormat.step (f : FFormat) (x : Nat) : Nat := f.biased x - 1

theorem FFormat.finite_iff {x : Nat} : f.finite x = true ↔ f.biased x ≠ 2 ^ f.exp - 1 := bne_iff_ne

theorem FFormat.value_eq (x : Nat) : f.value x = signFactor (f.sign x) * (f.significand x * 2 ^ (f.eMin + f.step x)) := by
  have hfrac : (2 : ℚ) ^ f.frac ≠ 0 := pow_ne_zero _ two_ne_zero
  have hscale : ∀ e : ℤ, (2 : ℚ) ^ (e - f.frac) = 2 ^ e / 2 ^ f.frac := fun e => by
    rw [zpow_sub₀ two_ne_zero, zpow_natCast]
  rw [FFormat.value, signFactor, FFormat.significand, FFormat.step]
  congr 1
  by_cases hb : f.biased x = 0
  · rw [if_pos hb, if_pos hb, hb, FFormat.eMin,
      show (2 - 2 ^ (f.exp - 1) - f.frac + ((0 - 1 : ℕ) : ℤ) : ℤ) = 2 - 2 ^ (f.exp - 1) - f.frac by simp, hscale]
    ring
  · rw [if_neg hb, if_neg hb, FFormat.eMin, Nat.cast_sub (Nat.one_le_iff_ne_zero.2 hb),
      show (2 - 2 ^ (f.exp - 1) - f.frac + ((f.biased x : ℤ) - (1 : ℕ)) : ℤ) = f.biased x + 1 - 2 ^ (f.exp - 1) - f.frac by
        push_cast; ring, hscale]
    push_cast
    field_simp

/-- Unpacking a finite pattern gives its value, with the exponent of its last place. -/
theorem unpack_finite {x : Nat} (h : f.finite x = true) :
    unpack f x = .fin (f.sign x) (f.significand x) (f.eMin + f.step x) := by
  have he := FFormat.finite_iff.1 h
  rw [FFormat.biased] at he
  rw [unpack, if_neg he, FFormat.significand, FFormat.step, FFormat.biased, FFormat.fraction, FFormat.sign]
  split
  next h0 => simp [h0]
  · rfl

theorem FFormat.significand_lt (x : Nat) : f.significand x < 2 ^ (f.frac + 1) := by
  have hlt : f.fraction x < 2 ^ f.frac := Nat.mod_lt _ (Nat.two_pow_pos _)
  rw [FFormat.significand, Nat.pow_succ]
  split <;> omega

theorem FFormat.significand_pattern (hb : b < 2 ^ f.exp) (ht : t < 2 ^ f.frac) :
    f.significand (f.pattern neg b t) = if b = 0 then t else 2 ^ f.frac + t := by
  rw [FFormat.significand, FFormat.biased_pattern hb ht, FFormat.fraction_pattern ht]

/-- The pattern of the magnitude `k × 2^(eMin + j)`: adding the integers `j` and `k` in their places carries into the exponent field
just where the leading 1 of a normal significand, or the next power of two, belongs (48 R733). -/
theorem FFormat.exists_fields {j k : Nat} (hk : k ≤ 2 ^ (f.frac + 1)) (hj : j = 0 ∨ 2 ^ f.frac ≤ k) :
    ∃ b t, j * 2 ^ f.frac + k = b * 2 ^ f.frac + t ∧ t < 2 ^ f.frac ∧
      ((if b = 0 then t else 2 ^ f.frac + t : ℕ) : ℚ) * 2 ^ (f.eMin + ((b - 1 : ℕ) : ℤ)) = k * 2 ^ (f.eMin + (j : ℤ)) := by
  have hpos : 0 < 2 ^ f.frac := Nat.two_pow_pos _
  rw [Nat.pow_succ] at hk
  obtain hlow | ⟨hlow, hlt⟩ | htop : k < 2 ^ f.frac ∨ (2 ^ f.frac ≤ k ∧ k < 2 ^ f.frac * 2) ∨ k = 2 ^ f.frac * 2 := by omega
  · obtain rfl : j = 0 := hj.resolve_right (by omega)
    exact ⟨0, k, rfl, hlow, by simp⟩
  · refine ⟨j + 1, k - 2 ^ f.frac, by rw [Nat.add_mul]; omega, by omega, ?_⟩
    rw [if_neg (Nat.succ_ne_zero j), Nat.add_sub_cancel' hlow, Nat.add_sub_cancel]
  · refine ⟨j + 2, 0, by rw [Nat.add_mul]; omega, hpos, ?_⟩
    rw [if_neg (by omega), htop, show j + 2 - 1 = j + 1 from rfl]
    push_cast
    rw [← add_assoc, zpow_add₀ two_ne_zero _ 1, zpow_one]
    ring

/-- A magnitude below the infinities is that of a finite pattern. -/
theorem FFormat.of_magnitude {j k : Nat} (hk : k ≤ 2 ^ (f.frac + 1)) (hj : j = 0 ∨ 2 ^ f.frac ≤ k)
    (hlt : j * 2 ^ f.frac + k < (2 ^ f.exp - 1) * 2 ^ f.frac) {x : Nat}
    (hx : x = neg.toNat * 2 ^ (f.exp + f.frac) + (j * 2 ^ f.frac + k)) :
    f.finite x = true ∧ f.sign x = neg ∧ f.value x = signFactor neg * (k * 2 ^ (f.eMin + (j : ℤ))) := by
  obtain ⟨b, t, hbt, ht, hval⟩ := FFormat.exists_fields hk hj
  have hb : b < 2 ^ f.exp - 1 := by
    rw [hbt] at hlt
    exact Nat.lt_of_mul_lt_mul_right (a := 2 ^ f.frac) (by omega)
  have hb' : b < 2 ^ f.exp := by omega
  obtain rfl : x = f.pattern neg b t := by rw [hx, hbt]; rfl
  refine ⟨?_, FFormat.sign_pattern hb' ht, ?_⟩
  · rw [FFormat.finite_iff, FFormat.biased_pattern hb' ht]; omega
  · rw [FFormat.value_eq, FFormat.sign_pattern hb' ht, FFormat.significand_pattern hb' ht, FFormat.step,
      FFormat.biased_pattern hb' ht, hval]

end

end Sys2Proof.Machine
end

section
/-! SUPPORT. Rounding to the nearest integer, ties to even, and the integers that `Float.lean` rounds with (48 R731): `roundShift`
and `scaleTo` give the nearest integer of what their operands stand for. -/

namespace Sys2Proof.Machine

/-- The integer `k` is nearest to `X`, and even where another one is as near. -/
def NearestEven (X : ℝ) (k : ℕ) : Prop := |X - k| ≤ 1 / 2 ∧ (|X - k| = 1 / 2 → k % 2 = 0)

/-- The integer `m` with the exponent `e` stands for `R`: exactly, or as the odd number between whose even neighbours `R` lies, where
it has at least `bits` places. -/
def StandsFor (bits m : ℕ) (e : ℤ) (R : ℝ) : Prop :=
  R = m * 2 ^ e ∨ m % 2 = 1 ∧ 2 ^ bits ≤ m ∧ (m - 1) * 2 ^ e < R ∧ R < (m + 1) * 2 ^ e

section
variable {X R : ℝ} {k m : ℕ}

theorem nearestEven_natCast (k : ℕ) : NearestEven k k := by
  simp [NearestEven]

/-- No integer is nearer, and none is as near unless the nearest is even. -/
theorem NearestEven.le_abs (h : NearestEven X k) (i : ℤ) :
    |(k : ℝ) - X| ≤ |i - X| ∧ (|(k : ℝ) - X| = |i - X| → i = k ∨ k % 2 = 0) := by
  obtain ⟨hhalf, heven⟩ := h
  obtain rfl | hne := eq_or_ne i k
  · exact ⟨le_rfl, fun _ => .inl rfl⟩
  have hone : (1 : ℝ) ≤ |(i : ℝ) - k| := by
    exact_mod_cast Int.one_le_abs (sub_ne_zero.2 hne)
  have htri : |(i : ℝ) - k| ≤ |i - X| + |X - k| := abs_sub_le _ _ _
  rw [abs_sub_comm (k : ℝ)]
  exact ⟨by linarith, fun heq => .inr (heven (by linarith))⟩

theorem NearestEven.ge_of_ge (h : NearestEven X k) {n : ℕ} (hn : (n : ℝ) ≤ X) : n ≤ k := by
  obtain ⟨hhalf, -⟩ := h
  have hlt : (n : ℝ) < k + 1 := by linarith [abs_le.1 hhalf]
  exact_mod_cast Nat.lt_succ_iff.1 (by exact_mod_cast hlt)

theorem NearestEven.le_of_lt (h : NearestEven X k) {n : ℕ} (hn : X < n) : k ≤ n := by
  obtain ⟨hhalf, -⟩ := h
  have hlt : (k : ℝ) < n + 1 := by linarith [abs_le.1 hhalf]
  exact_mod_cast Nat.lt_succ_iff.1 (by exact_mod_cast hlt)

/-- Rounding up to an even `n` happens from halfway on. -/
theorem NearestEven.eq_iff_of_even (h : NearestEven X k) {n : ℕ} (hn : n % 2 = 0) (hpos : 0 < n) (hX : X < n) :
    k = n ↔ (n : ℝ) - 1 / 2 ≤ X := by
  have hle := h.le_of_lt hX
  obtain ⟨hhalf, heven⟩ := h
  obtain ⟨hlow, hhigh⟩ := abs_le.1 hhalf
  refine ⟨fun hk => by rw [hk] at hlow; linarith, fun hX' => ?_⟩
  obtain rfl | hlt := hle.eq_or_lt
  · rfl
  have hk1 : (k : ℝ) + 1 ≤ n := by exact_mod_cast hlt
  have hdiff : X - k = 1 / 2 := by linarith
  have hk2 : (k : ℝ) + 1 = n := by linarith
  have := heven (by rw [hdiff, abs_of_pos (by norm_num)])
  have hk3 : k + 1 = n := by exact_mod_cast hk2
  omega

/-- `roundShift` compares the number with the one halfway between two multiples of `2^k`; a number between the even neighbours of an
odd `m` lies on the same side of that as `m`. -/
theorem nearestEven_roundShift (h : R = m ∨ m % 2 = 1 ∧ 2 ≤ k ∧ (m : ℝ) - 1 < R ∧ R < m + 1) :
    NearestEven (R / 2 ^ k) (roundShift m k) := by
  have hpos : (0 : ℝ) < 2 ^ k := by positivity
  set q := m / 2 ^ k with hq
  set r := m % 2 ^ k with hr
  have hm : m = 2 ^ k * q + r := (Nat.div_add_mod m _).symm
  have hrlt : r < 2 ^ k := Nat.mod_lt _ (Nat.two_pow_pos _)
  have hmR : (m : ℝ) = 2 ^ k * q + r := by exact_mod_cast hm
  have hrltR : (r : ℝ) + 1 ≤ 2 ^ k := by exact_mod_cast hrlt
  -- the remainder of `R` and that of `m` compare alike with half of `2^k`
  obtain ⟨s, hs⟩ : ∃ s : ℝ, s = R / 2 ^ k - q := ⟨_, rfl⟩
  have hRs : R = 2 ^ k * q + 2 ^ k * s := by rw [hs]; field_simp; ring
  have hcmp : 0 ≤ 2 ^ k * s ∧ 2 ^ k * s ≤ 2 ^ k ∧ (2 * r < 2 ^ k → 2 ^ k * s < 2 ^ k * (1 / 2)) ∧
      (2 * r = 2 ^ k → 2 ^ k * s = 2 ^ k * (1 / 2)) ∧ (2 ^ k < 2 * r → 2 ^ k * (1 / 2) < 2 ^ k * s) := by
    obtain hR | ⟨hodd, hk, hlow, hhigh⟩ := h
    · have hrs : 2 ^ k * s = r := by linarith
      rw [hrs]
      refine ⟨Nat.cast_nonneg r, by linarith, fun h => ?_, fun h => ?_, fun h => ?_⟩
      · have : (2 * r : ℝ) < 2 ^ k := by exact_mod_cast h
        linarith
      · have : (2 * r : ℝ) = 2 ^ k := by exact_mod_cast h
        linarith
      · have : (2 ^ k : ℝ) < 2 * r := by exact_mod_cast h
        linarith
    · obtain ⟨d, rfl⟩ := Nat.exists_eq_add_of_le' hk
      have hpow : 2 ^ (d + 2) = 4 * 2 ^ d := by rw [Nat.pow_add]; ring
      have hrodd : r % 2 = 1 := by
        rw [hm, hpow, Nat.mul_assoc] at hodd; omega
      refine ⟨?_, by linarith, fun h => ?_, fun h => by omega, fun h => ?_⟩
      · have : (1 : ℝ) ≤ r := by exact_mod_cast (by omega : 1 ≤ r)
        linarith
      · have : (2 * r + 2 : ℝ) ≤ 2 ^ (d + 2) := by exact_mod_cast (by omega : 2 * r + 2 ≤ 2 ^ (d + 2))
        linarith
      · have : (2 ^ (d + 2) + 2 : ℝ) ≤ 2 * r := by exact_mod_cast (by omega : 2 ^ (d + 2) + 2 ≤ 2 * r)
        linarith
  obtain ⟨h0, h1, hlt, heq, hgt⟩ := hcmp
  have h0 : 0 ≤ s := nonneg_of_mul_nonneg_right h0 hpos
  have h1 : s ≤ 1 := by rwa [mul_le_iff_le_one_right hpos] at h1
  have hlt : 2 * r < 2 ^ k → s < 1 / 2 := fun h => lt_of_mul_lt_mul_left (hlt h) hpos.le
  have heq : 2 * r = 2 ^ k → s = 1 / 2 := fun h => mul_left_cancel₀ hpos.ne' (heq h)
  have hgt : 2 ^ k < 2 * r → 1 / 2 < s := fun h => lt_of_mul_lt_mul_left (hgt h) hpos.le
  have hRq : R / 2 ^ k = q + s := by rw [hs]; ring
  have hdown : R / 2 ^ k - q = s := by rw [hRq]; ring
  have hup : R / 2 ^ k - (q + 1 : ℕ) = -(1 - s) := by rw [hRq]; push_cast; ring
  rw [roundShift, NearestEven]
  simp only [← hq, ← hr, Bool.or_eq_true, Bool.and_eq_true, decide_eq_true_eq, gt_iff_lt]
  split
  next hcase =>
    rw [hup, abs_neg, abs_of_nonneg (by linarith)]
    obtain hr' | ⟨hr', hqodd⟩ := hcase
    · exact ⟨by linarith [hgt hr'], fun h => absurd (hgt hr') (by linarith)⟩
    · exact ⟨by linarith [heq hr'], fun _ => by omega⟩
  next hcase =>
    rw [hdown, abs_of_nonneg h0]
    obtain hr' | hr' := Nat.lt_or_eq_of_le (Nat.le_of_not_lt fun h => hcase (.inl h))
    · exact ⟨(hlt hr').le, fun h => absurd (hlt hr') (by linarith)⟩
    · exact ⟨(heq hr').le, fun _ => Nat.mod_two_ne_one.1 fun hqodd => hcase (.inr ⟨hr', hqodd⟩)⟩

/-- Scaled to an exponent at least two above the last place where it stands for a number inexactly, `m × 2^e` gives the nearest
integer. -/
theorem nearestEven_scaleTo {e q : ℤ}
    (h : R = m * 2 ^ e ∨ m % 2 = 1 ∧ e + 2 ≤ q ∧ ((m : ℝ) - 1) * 2 ^ e < R ∧ R < (m + 1) * 2 ^ e) :
    NearestEven (R / 2 ^ q) (scaleTo m (e - q)) := by
  rw [scaleTo]
  split
  next hle =>
    have hR : R = m * 2 ^ e := h.resolve_right fun ⟨_, hq, _, _⟩ => by omega
    obtain ⟨d, hd⟩ := Int.eq_ofNat_of_zero_le hle
    obtain rfl : e = q + d := by omega
    have : R / 2 ^ q = (m * 2 ^ d : ℕ) := by
      rw [hR, zpow_add₀ two_ne_zero, zpow_natCast]; push_cast; field_simp
    rw [this, show (q + d - q : ℤ).toNat = d by omega]
    exact nearestEven_natCast _
  next hlt =>
    obtain ⟨d, hd⟩ := Int.eq_ofNat_of_zero_le (a := q - e) (by omega)
    obtain rfl : q = e + d := by omega
    have hpos : (0 : ℝ) < 2 ^ e := by positivity
    have hdiv : R / 2 ^ (e + d : ℤ) = R / 2 ^ e / 2 ^ d := by
      rw [zpow_add₀ two_ne_zero, zpow_natCast, div_div]
    rw [hdiv, show (-(e - (e + d)) : ℤ).toNat = d by omega]
    refine nearestEven_roundShift (h.imp (fun hR => by rw [hR]; field_simp) fun ⟨hodd, hq, hlow, hhigh⟩ => ?_)
    exact ⟨hodd, by omega, (lt_div_iff₀ hpos).2 hlow, (div_lt_iff₀ hpos).2 hhigh⟩

end

end Sys2Proof.Machine
end

section
/-! SUPPORT. One rounding to a format (48 R731, R733, R734): the pattern that `packNum` makes is the rounded value of the number that
its operand stands for, with overflow, subnormals and ties. -/

namespace Sys2Proof.Machine

section
variable {f : FFormat} {r : ℝ} {neg neg' : Bool} {z : ℕ}

/-! ### Rounded patterns -/

theorem signFactor_cast (neg : Bool) : ((signFactor neg : ℚ) : ℝ) = if neg then -1 else 1 := by
  cases neg <;> norm_num [signFactor]

theorem abs_signFactor_mul (neg : Bool) {R : ℝ} (hR : 0 ≤ R) : |((signFactor neg : ℚ) : ℝ) * R| = R := by
  rw [signFactor_cast]; cases neg <;> simp [abs_of_nonneg hR]

/-- The sign given for an exact zero matters for a zero only. -/
theorem Rounded.of_sign (h : Rounded f r neg z) (hneg : r = 0 → neg = neg') : Rounded f r neg' z := by
  refine ⟨h.1, fun hlt => ?_⟩
  obtain ⟨hfin, hsign, hnear⟩ := h.2 hlt
  refine ⟨hfin, hsign.trans (or_congr_right (and_congr_right fun h0 => ?_)), hnear⟩
  rw [hneg h0]

/-- Below the limit, the sign of the rounded pattern is that of the number, or the given one of a zero. -/
theorem Rounded.sign_eq {R : ℝ} (h : Rounded f r neg z) (hlt : |r| < f.limit) (hR : 0 ≤ R) (hr : r = (signFactor neg : ℚ) * R) :
    f.sign z = neg := by
  have hsign := (h.2 hlt).2.1
  rw [signFactor_cast] at hr
  cases neg with
  | false =>
    refine Bool.eq_false_iff.2 fun hs => ?_
    obtain hneg | ⟨-, hfalse⟩ := hsign.1 hs
    · simp only [Bool.false_eq_true, if_false, one_mul] at hr
      linarith
    · exact Bool.false_ne_true hfalse
  | true =>
    refine hsign.2 ?_
    obtain h0 | hpos := hR.eq_or_lt
    · exact .inr ⟨by rw [hr, ← h0, mul_zero], rfl⟩
    · exact .inl (by rw [hr]; simpa using hpos)

/-- A number that a finite pattern has as its value is the value of its rounded pattern. -/
theorem Rounded.value_eq {y : ℕ} (h : Rounded f r neg z) (hlt : |r| < f.limit) (hy : f.finite y = true) (hr : (f.value y : ℝ) = r) :
    f.finite z = true ∧ (f.value z : ℝ) = r := by
  obtain ⟨hfin, -, hnear⟩ := h.2 hlt
  have hle := (hnear y hy).1
  rw [hr, sub_self, abs_zero] at hle
  exact ⟨hfin, sub_eq_zero.1 (abs_nonpos_iff.1 hle)⟩

/-! ### The greatest values -/

theorem FFormat.Wide.maxStep_add (hf : f.Wide) : f.maxStep + 3 = 2 ^ f.exp := by
  have : 2 ^ 2 ≤ 2 ^ f.exp := Nat.pow_le_pow_right (by decide) hf.exp
  rw [FFormat.maxStep]; omega

/-- The pattern above the greatest finite magnitude, in its places of fraction and steps. -/
theorem FFormat.Wide.top_eq (hf : f.Wide) : (2 ^ f.exp - 1) * 2 ^ f.frac = f.maxStep * 2 ^ f.frac + 2 ^ (f.frac + 1) := by
  rw [← hf.maxStep_add, Nat.pow_succ, Nat.add_sub_assoc (by decide), Nat.add_mul]
  ring

/-- The limit, in last places of the greatest values. -/
theorem FFormat.Wide.limit_eq (hf : f.Wide) :
    (f.limit : ℝ) = (2 ^ (f.frac + 1) - 1 / 2) * 2 ^ (f.eMin + (f.maxStep : ℤ)) := by
  have hexp := hf.exp
  obtain ⟨d, hd⟩ : ∃ d, f.exp = d + 1 := ⟨f.exp - 1, by omega⟩
  have hcast : ((f.maxStep : ℕ) : ℤ) = 2 ^ f.exp - 3 := by
    have := hf.maxStep_add
    rw [eq_sub_iff_add_eq]; exact_mod_cast this
  have he : (f.eMin + (f.maxStep : ℤ) : ℤ) = ((2 ^ (f.exp - 1) - 1 : ℕ) : ℤ) - f.frac := by
    rw [hcast, FFormat.eMin, hd, Nat.add_sub_cancel, Nat.cast_sub Nat.one_le_two_pow]
    push_cast; ring
  rw [he, zpow_sub₀ two_ne_zero, zpow_natCast, zpow_natCast, FFormat.limit]
  push_cast
  field_simp
  ring

theorem FFormat.step_le_maxStep (hf : f.Wide) {y : ℕ} (hy : f.finite y = true) : f.step y ≤ f.maxStep := by
  have hb : f.biased y < 2 ^ f.exp := Nat.mod_lt _ (Nat.two_pow_pos _)
  have := FFormat.finite_iff.1 hy
  have := hf.maxStep_add
  rw [FFormat.step]; omega

/-- The value of a pattern in ℝ. -/
theorem FFormat.value_cast (y : ℕ) :
    (f.value y : ℝ) = (signFactor (f.sign y) : ℚ) * (f.significand y * 2 ^ (f.eMin + (f.step y : ℤ))) := by
  rw [FFormat.value_eq]; push_cast; rfl

theorem FFormat.abs_value (y : ℕ) : |(f.value y : ℝ)| = f.significand y * 2 ^ (f.eMin + (f.step y : ℤ)) := by
  rw [FFormat.value_cast, abs_signFactor_mul _ (by positivity)]

theorem zpow_two_mono {a b : ℤ} (h : a ≤ b) : (2 : ℝ) ^ a ≤ 2 ^ b := zpow_le_zpow_right₀ one_le_two h

/-- Every finite value is below the limit. -/
theorem FFormat.abs_value_lt_limit (hf : f.Wide) {y : ℕ} (hy : f.finite y = true) : |(f.value y : ℝ)| < f.limit := by
  have hstep : (f.eMin + (f.step y : ℤ)) ≤ f.eMin + (f.maxStep : ℤ) :=
    add_le_add_right (by exact_mod_cast FFormat.step_le_maxStep hf hy) _
  have hsig : (f.significand y : ℝ) + 1 ≤ 2 ^ (f.frac + 1) := by exact_mod_cast f.significand_lt y
  rw [FFormat.abs_value, hf.limit_eq]
  calc (f.significand y : ℝ) * 2 ^ (f.eMin + (f.step y : ℤ))
      ≤ f.significand y * 2 ^ (f.eMin + (f.maxStep : ℤ)) := by gcongr; exact one_le_two
    _ < (2 ^ (f.frac + 1) - 1 / 2) * 2 ^ (f.eMin + (f.maxStep : ℤ)) := by
      have : (0 : ℝ) < 2 ^ (f.eMin + (f.maxStep : ℤ)) := by positivity
      exact mul_lt_mul_of_pos_right (by linarith) this

/-! ### Rounding a magnitude -/

variable {X : ℝ} {j k : ℕ}

/-- A magnitude overflows just where its rounded integers reach the infinity's pattern. -/
theorem limit_le_iff (hf : f.Wide) (hX1 : X < 2 ^ (f.frac + 1)) (hj : j = 0 ∨ 2 ^ f.frac ≤ X) (hk : NearestEven X k) :
    (f.limit : ℝ) ≤ X * 2 ^ (f.eMin + (j : ℤ)) ↔ (2 ^ f.exp - 1) * 2 ^ f.frac ≤ j * 2 ^ f.frac + k := by
  have hle : k ≤ 2 ^ (f.frac + 1) := hk.le_of_lt (by exact_mod_cast hX1)
  have hpos : (0 : ℝ) < 2 ^ (f.eMin + (f.maxStep : ℤ)) := by positivity
  have hone : (1 : ℝ) ≤ 2 ^ f.frac := one_le_pow₀ one_le_two
  have htop := hf.top_eq
  rw [hf.limit_eq, htop]
  rw [pow_succ] at hX1 hle ⊢
  have hF : 0 < 2 ^ f.frac := Nat.two_pow_pos _
  obtain hlt | rfl | hgt := lt_trichotomy j f.maxStep
  · refine iff_of_false (not_le.2 ?_) (not_le.2 ?_)
    · have hmono : (2 : ℝ) ^ (f.eMin + (j : ℤ) + 1) ≤ 2 ^ (f.eMin + (f.maxStep : ℤ)) := zpow_two_mono (by omega)
      rw [zpow_add_one₀ two_ne_zero] at hmono
      calc X * 2 ^ (f.eMin + (j : ℤ)) < 2 ^ f.frac * 2 * 2 ^ (f.eMin + (j : ℤ)) := by gcongr
        _ = 2 ^ f.frac * (2 ^ (f.eMin + (j : ℤ)) * 2) := by ring
        _ ≤ 2 ^ f.frac * 2 ^ (f.eMin + (f.maxStep : ℤ)) := by gcongr
        _ ≤ (2 ^ f.frac * 2 - 1 / 2) * 2 ^ (f.eMin + (f.maxStep : ℤ)) := by gcongr; linarith
    · have := Nat.mul_le_mul_right (2 ^ f.frac) hlt
      rw [Nat.succ_mul] at this
      omega
  · rw [mul_le_mul_iff_left₀ hpos, Nat.add_le_add_iff_left]
    have heven := hk.eq_iff_of_even (n := 2 ^ f.frac * 2) (Nat.mul_mod_left _ _) (by omega) (by exact_mod_cast hX1)
    push_cast at heven
    rw [← heven]
    omega
  · have hX : 2 ^ f.frac ≤ X := hj.resolve_left (by omega)
    have hk' := hk.ge_of_ge (n := 2 ^ f.frac) (by exact_mod_cast hX)
    refine iff_of_true ?_ ?_
    · have hmono : (2 : ℝ) ^ (f.eMin + (f.maxStep : ℤ) + 1) ≤ 2 ^ (f.eMin + (j : ℤ)) := zpow_two_mono (by omega)
      rw [zpow_add_one₀ two_ne_zero] at hmono
      calc (2 ^ f.frac * 2 - 1 / 2 : ℝ) * 2 ^ (f.eMin + (f.maxStep : ℤ))
          ≤ 2 ^ f.frac * 2 * 2 ^ (f.eMin + (f.maxStep : ℤ)) := by gcongr; linarith
        _ = 2 ^ f.frac * (2 ^ (f.eMin + (f.maxStep : ℤ)) * 2) := by ring
        _ ≤ X * 2 ^ (f.eMin + (j : ℤ)) := mul_le_mul hX hmono (by positivity) (by linarith)
    · have := Nat.mul_le_mul_right (2 ^ f.frac) hgt
      rw [Nat.succ_mul] at this
      omega

/-- The finite values are integers in last places of a magnitude, or below all magnitudes with that last place. -/
theorem FFormat.value_integer_or_small (j y : ℕ) :
    (∃ i : ℤ, (f.value y : ℝ) = i * 2 ^ (f.eMin + (j : ℤ))) ∨
      0 < j ∧ |(f.value y : ℝ)| < 2 ^ f.frac * 2 ^ (f.eMin + (j : ℤ)) := by
  obtain hle | hlt := le_or_gt j (f.step y)
  · obtain ⟨d, hd⟩ := Nat.exists_eq_add_of_le hle
    refine .inl ⟨(if f.sign y then -1 else 1) * (f.significand y * 2 ^ d), ?_⟩
    rw [FFormat.value_cast, signFactor_cast, hd, Nat.cast_add, ← add_assoc, zpow_add₀ two_ne_zero _ (d : ℤ), zpow_natCast]
    push_cast
    ring
  · have hmono : (2 : ℝ) ^ (f.eMin + (f.step y : ℤ) + 1) ≤ 2 ^ (f.eMin + (j : ℤ)) := zpow_two_mono (by omega)
    have hsig : (f.significand y : ℝ) < 2 ^ f.frac * 2 := by
      rw [← pow_succ]; exact_mod_cast f.significand_lt y
    rw [zpow_add_one₀ two_ne_zero] at hmono
    refine .inr ⟨by omega, ?_⟩
    rw [FFormat.abs_value]
    calc (f.significand y : ℝ) * 2 ^ (f.eMin + (f.step y : ℤ))
        < 2 ^ f.frac * 2 * 2 ^ (f.eMin + (f.step y : ℤ)) := by gcongr
      _ = 2 ^ f.frac * (2 ^ (f.eMin + (f.step y : ℤ)) * 2) := by ring
      _ ≤ 2 ^ f.frac * 2 ^ (f.eMin + (j : ℤ)) := by gcongr

/-- Among numbers that are multiples of `E`, or less than a `c × E` that is not above `X × E`, the nearest one to `X × E` is `k × E`, and
one as near is equal, or `k` is even. -/
theorem NearestEven.le_abs_mul (hk : NearestEven X k) {E w : ℝ} (hE : 0 < E) {c : ℕ}
    (hw : (∃ i : ℤ, w = i * E) ∨ (c : ℝ) ≤ X ∧ |w| < c * E) :
    |k * E - X * E| ≤ |w - X * E| ∧ (|k * E - X * E| = |w - X * E| → w = k * E ∨ k % 2 = 0) := by
  rw [← sub_mul, abs_mul, abs_of_pos hE]
  obtain ⟨i, rfl⟩ | ⟨hcX, hw⟩ := hw
  · obtain ⟨hle, heq⟩ := hk.le_abs i
    rw [← sub_mul, abs_mul, abs_of_pos hE]
    refine ⟨mul_le_mul_of_nonneg_right hle hE.le, fun h => ?_⟩
    refine (heq (mul_right_cancel₀ hE.ne' h)).imp (fun hi => ?_) id
    rw [hi, Int.cast_natCast]
  · have hle : |(k : ℝ) - X| ≤ X - c := by
      have := (hk.le_abs c).1
      rwa [Int.cast_natCast, abs_sub_comm (c : ℝ), abs_of_nonneg (sub_nonneg.2 hcX)] at this
    have hlt : |(k : ℝ) - X| * E < |w - X * E| := by
      have hw' := (abs_lt.1 hw).2
      calc |(k : ℝ) - X| * E ≤ (X - c) * E := by gcongr
        _ = X * E - c * E := by ring
        _ < X * E - w := by linarith
        _ ≤ |w - X * E| := by rw [abs_sub_comm]; exact le_abs_self _
    exact ⟨hlt.le, fun h => absurd h hlt.ne⟩

/-- No finite value is nearer to a number than its nearest multiple of the last place of its magnitude, and one as near is equal, or
the multiple is even. -/
theorem nearest_value (hj : j = 0 ∨ 2 ^ f.frac ≤ X) (hk : NearestEven X k) (neg : Bool) (y : ℕ) {v : ℝ}
    (hv : v = (signFactor neg : ℚ) * (k * 2 ^ (f.eMin + (j : ℤ))))
    (hr : r = (signFactor neg : ℚ) * (X * 2 ^ (f.eMin + (j : ℤ)))) :
    |v - r| ≤ |(f.value y : ℝ) - r| ∧ (|v - r| = |(f.value y : ℝ) - r| → (f.value y : ℝ) = v ∨ k % 2 = 0) := by
  have hE : (0 : ℝ) < 2 ^ (f.eMin + (j : ℤ)) := by positivity
  have hy := FFormat.value_integer_or_small (f := f) j y
  generalize (f.value y : ℝ) = w at hy ⊢
  generalize (2 : ℝ) ^ (f.eMin + (j : ℤ)) = E at hE hy hv hr
  have hy : ∀ w' : ℝ, w' = w ∨ w' = -w →
      (∃ i : ℤ, w' = i * E) ∨ ((2 ^ f.frac : ℕ) : ℝ) ≤ X ∧ |w'| < (2 ^ f.frac : ℕ) * E := by
    intro w' hw'
    obtain ⟨i, hi⟩ | ⟨hj0, hsmall⟩ := hy
    · obtain rfl | rfl := hw'
      · exact .inl ⟨i, hi⟩
      · exact .inl ⟨-i, by rw [hi]; push_cast; ring⟩
    · have hX : (2 ^ f.frac : ℝ) ≤ X := hj.resolve_left (by omega)
      have habs : |w'| = |w| := abs_eq_abs.2 hw'
      exact .inr ⟨by exact_mod_cast hX, by rw [habs]; exact_mod_cast hsmall⟩
  rw [signFactor_cast] at hv hr
  cases neg with
  | false =>
    simp only [Bool.false_eq_true, if_false, one_mul] at hv hr
    rw [hv, hr]
    exact hk.le_abs_mul hE (hy w (.inl rfl))
  | true =>
    simp only [if_true, neg_mul, one_mul] at hv hr
    have h := hk.le_abs_mul hE (hy (-w) (.inr rfl))
    rw [hv, hr, ← abs_neg, ← abs_neg (w - _)]
    rw [show -(-(k * E) - -(X * E)) = k * E - X * E by ring, show -(w - -(X * E)) = -w - X * E by ring]
    exact ⟨h.1, fun heq => (h.2 heq).imp (fun hw => by rw [← hw, neg_neg]) id⟩

theorem FFormat.infinity_eq (f : FFormat) (neg : Bool) :
    f.infinity neg = neg.toNat * 2 ^ (f.exp + f.frac) + (2 ^ f.exp - 1) * 2 ^ f.frac := by
  rw [FFormat.infinity, Nat.pow_add]; ring

/-- The pattern of the nearest integers is the rounded magnitude. -/
theorem rounded_of_nearestEven (hf : f.Wide) (hX0 : 0 ≤ X) (hX1 : X < 2 ^ (f.frac + 1)) (hj : j = 0 ∨ 2 ^ f.frac ≤ X)
    (hk : NearestEven X k) (hr : r = (signFactor neg : ℚ) * (X * 2 ^ (f.eMin + (j : ℤ)))) :
    Rounded f r neg (neg.toNat * 2 ^ (f.exp + f.frac) + min (j * 2 ^ f.frac + k) ((2 ^ f.exp - 1) * 2 ^ f.frac)) := by
  have hR : 0 ≤ X * 2 ^ (f.eMin + (j : ℤ)) := by positivity
  have habs : |r| = X * 2 ^ (f.eMin + (j : ℤ)) := by rw [hr, abs_signFactor_mul _ hR]
  have hlimit := limit_le_iff hf hX1 hj hk
  have hpow : ∀ n, 1 ≤ n → 2 ^ n % 2 = 0 := fun n hn => by
    rw [← Nat.sub_add_cancel hn, Nat.pow_succ, Nat.mul_mod_left]
  have hsign : (r < 0 → neg = true) ∧ (0 < r → neg = false) := by
    rw [hr, signFactor_cast]
    cases neg
    · simp [hR]
    · simp [hR]
  rw [Rounded, habs]
  refine ⟨fun hle => ?_, fun hlt => ?_⟩
  · rw [Nat.min_eq_right (hlimit.1 hle), ← FFormat.infinity_eq]
    exact ⟨fun h => by rw [hsign.2 h], fun h => by rw [hsign.1 h]⟩
  · have hlt' : j * 2 ^ f.frac + k < (2 ^ f.exp - 1) * 2 ^ f.frac := Nat.lt_of_not_le fun h => hlt.not_ge (hlimit.2 h)
    rw [Nat.min_eq_left hlt'.le]
    have hk1 : k ≤ 2 ^ (f.frac + 1) := hk.le_of_lt (by exact_mod_cast hX1)
    have hjk : j = 0 ∨ 2 ^ f.frac ≤ k := hj.imp_right fun h => hk.ge_of_ge (by exact_mod_cast h)
    generalize hx : neg.toNat * 2 ^ (f.exp + f.frac) + (j * 2 ^ f.frac + k) = x
    obtain ⟨hfin, hs, hval⟩ := FFormat.of_magnitude hk1 hjk hlt' hx.symm
    have hvalR : (f.value x : ℝ) = (signFactor neg : ℚ) * (k * 2 ^ (f.eMin + (j : ℤ))) := by rw [hval]; push_cast; rfl
    refine ⟨hfin, ?_, fun y _ => ?_⟩
    · rw [hs]
      obtain hneg | rfl | hpos := lt_trichotomy r 0
      · simp [hsign.1 hneg, hneg]
      · simp
      · simp [hsign.2 hpos, hpos.le, hpos.ne']
    · obtain ⟨hle, heq⟩ := nearest_value hj hk neg y hvalR hr
      refine ⟨hle, fun h => (heq h).imp (fun hv => by exact_mod_cast hv) fun heven => ?_⟩
      rw [← hx, Nat.add_mod, Nat.mul_mod, hpow _ (hf.frac.trans (Nat.le_add_left _ _)), Nat.add_mod (j * _), Nat.mul_mod j,
        hpow _ hf.frac, heven]
      rfl

/-! ### The pattern that `packNum` makes -/

theorem StandsFor.nonneg {bits m : ℕ} {e : ℤ} {R : ℝ} (h : StandsFor bits m e R) : 0 ≤ R := by
  obtain rfl | ⟨hodd, -, hlow, -⟩ := h
  · positivity
  · have : (1 : ℝ) ≤ m := by exact_mod_cast (by omega : 1 ≤ m)
    have : 0 ≤ ((m : ℝ) - 1) * 2 ^ e := mul_nonneg (by linarith) (by positivity)
    linarith

/-- What a number of `log2 m + 1` places stands for has as many. -/
theorem StandsFor.bounds {bits m : ℕ} {e : ℤ} {R : ℝ} (h : StandsFor bits m e R) (hm : m ≠ 0) (hbits : 0 < bits) :
    2 ^ m.log2 * 2 ^ e ≤ R ∧ R < 2 ^ (m.log2 + 1) * 2 ^ e := by
  have hpos : (0 : ℝ) < 2 ^ e := by positivity
  have hlow : 2 ^ m.log2 ≤ m := Nat.log2_self_le hm
  have hhigh : m < 2 ^ (m.log2 + 1) := Nat.lt_log2_self
  obtain rfl | ⟨hodd, hbig, hlt, hgt⟩ := h
  · exact ⟨by gcongr; exact_mod_cast hlow, by gcongr; exact_mod_cast hhigh⟩
  · have hlog : bits ≤ m.log2 := (Nat.le_log2 hm).2 hbig
    have heven : 2 ^ m.log2 % 2 = 0 := by
      rw [← Nat.sub_add_cancel (hbits.trans_le hlog), Nat.pow_succ, Nat.mul_mod_left]
    have hlow' : (2 ^ m.log2 + 1 : ℝ) ≤ m := by exact_mod_cast (by omega : 2 ^ m.log2 + 1 ≤ m)
    have hhigh' : (m + 1 : ℝ) ≤ 2 ^ (m.log2 + 1) := by exact_mod_cast hhigh
    refine ⟨?_, ?_⟩
    · calc (2 : ℝ) ^ m.log2 * 2 ^ e ≤ (m - 1) * 2 ^ e := by gcongr; linarith
        _ ≤ R := hlt.le
    · calc R < (m + 1) * 2 ^ e := hgt
        _ ≤ 2 ^ (m.log2 + 1) * 2 ^ e := by gcongr

/-- One rounding of what `m × 2^e` stands for (48 R731): the last place of the result is that of the leading bit of `m`, `frac` places
down, or that of the subnormals. -/
theorem rounded_packNum (hf : f.Wide) {m : ℕ} {e : ℤ} {R : ℝ} (hR : StandsFor (f.frac + 2) m e R)
    (hr : r = (signFactor neg : ℚ) * R) : Rounded f r neg (packNum f (.fin neg m e)) := by
  rw [packNum, roundMag]
  split
  next hm =>
    obtain rfl : R = 0 := by
      obtain h | ⟨hodd, -⟩ := hR
      · simp [h, hm]
      · omega
    have := rounded_of_nearestEven hf (r := r) (neg := neg) (X := 0) (j := 0) (k := 0) le_rfl (by positivity) (.inl rfl)
      (by simpa using nearestEven_natCast 0) (by simp [hr])
    simpa using this
  next hm =>
    generalize hq : max (e + (m.log2 : ℤ) - f.frac) f.eMin = q
    obtain ⟨hlow, hhigh⟩ := hR.bounds hm (by omega)
    have hqpos : (0 : ℝ) < 2 ^ q := by positivity
    have hj : f.eMin + ((q - f.eMin).toNat : ℤ) = q := by omega
    have hscale : ∀ n : ℤ, (2 : ℝ) ^ n * 2 ^ q = 2 ^ (n + q) := fun n => (zpow_add₀ two_ne_zero _ _).symm
    refine rounded_of_nearestEven hf (X := R / 2 ^ q) (div_nonneg hR.nonneg hqpos.le) ?_ ?_ (nearestEven_scaleTo ?_) ?_
    · rw [div_lt_iff₀ hqpos]
      refine hhigh.trans_le ?_
      rw [← zpow_natCast, ← zpow_natCast, hscale, ← zpow_add₀ two_ne_zero]
      exact zpow_two_mono (by omega)
    · refine or_iff_not_imp_left.2 fun hne => ?_
      rw [le_div_iff₀ hqpos]
      refine le_trans (le_of_eq ?_) hlow
      rw [← zpow_natCast, ← zpow_natCast, hscale, ← zpow_add₀ two_ne_zero]
      congr 1
      omega
    · refine hR.imp id fun ⟨hodd, hbig, hbetween⟩ => ⟨hodd, ?_, hbetween⟩
      have : f.frac + 2 ≤ m.log2 := (Nat.le_log2 hm).2 hbig
      omega
    · rw [hj, div_mul_cancel₀ _ hqpos.ne', hr]

end

end Sys2Proof.Machine
end

section
/-! SUPPORT. The exact operations of `Float.lean` on finite values (48 R735 to R747): the number and the sign that each result stands
for, and O57. -/

namespace Sys2Proof.Machine

/-- The value is finite, with the sign `neg`, and stands for the number `x`. -/
def FVal.Is (v : FVal) (neg : Bool) (x : ℚ) : Prop := ∃ m e, v = .fin neg m e ∧ x = signFactor neg * (m * 2 ^ e)

section
variable {f : FFormat} {v w : FVal} {a b : Bool} {x y : ℚ}

/-! ### Patterns and values -/

theorem unpack_is {p : ℕ} (h : f.finite p = true) : (unpack f p).Is (f.sign p) (f.value p) :=
  ⟨_, _, unpack_finite h, f.value_eq p⟩

/-- A finite value is packed with one rounding. -/
theorem FVal.Is.rounded (hv : v.Is a x) (hf : f.Wide) : Rounded f x a (packNum f v) := by
  obtain ⟨m, e, rfl, hx⟩ := hv
  exact rounded_packNum hf (R := m * 2 ^ e) (.inl rfl) (by rw [hx]; push_cast; rfl)

theorem packNum_lt (f : FFormat) (neg : Bool) (m : ℕ) (e : ℤ) : packNum f (.fin neg m e) < 2 ^ (f.exp + f.frac + 1) := by
  have hmag : roundMag f m e ≤ (2 ^ f.exp - 1) * 2 ^ f.frac := by
    rw [roundMag]
    split
    · exact Nat.zero_le _
    · exact Nat.min_le_right _ _
  have htop : (2 ^ f.exp - 1) * 2 ^ f.frac < 2 ^ (f.exp + f.frac) := by
    rw [Nat.pow_add]
    exact Nat.mul_lt_mul_of_pos_right (Nat.sub_lt (Nat.two_pow_pos _) Nat.one_pos) (Nat.two_pow_pos _)
  rw [packNum, Nat.pow_succ]
  cases neg
  · rw [Bool.toNat_false, Nat.zero_mul]; omega
  · rw [Bool.toNat_true, Nat.one_mul]; omega

theorem bits32_fin_toNat (neg : Bool) (m : ℕ) (e : ℤ) : (bits32 (.fin neg m e)).toNat = packNum binary32 (.fin neg m e) :=
  BitVec.toNat_ofNat _ _ |>.trans (Nat.mod_eq_of_lt (packNum_lt binary32 neg m e))

theorem bits64_fin_toNat (neg : Bool) (m : ℕ) (e : ℤ) : (bits64 (.fin neg m e)).toNat = packNum binary64 (.fin neg m e) :=
  BitVec.toNat_ofNat _ _ |>.trans (Nat.mod_eq_of_lt (packNum_lt binary64 neg m e))

theorem FVal.Is.rounded32 (hv : v.Is a x) : Rounded binary32 x a (bits32 v).toNat := by
  have h := hv.rounded binary32_wide
  obtain ⟨m, e, rfl, -⟩ := hv
  rwa [bits32_fin_toNat]

theorem FVal.Is.rounded64 (hv : v.Is a x) : Rounded binary64 x a (bits64 v).toNat := by
  have h := hv.rounded binary64_wide
  obtain ⟨m, e, rfl, -⟩ := hv
  rwa [bits64_fin_toNat]

@[simp] theorem sign_toNat32 (p : Word) : binary32.sign p.toNat = p.msb := by
  have := p.isLt
  rw [BitVec.msb_eq_decide, Bool.eq_iff_iff, decide_eq_true_eq, FFormat.sign, beq_iff_eq]
  simp only [binary32]
  omega

@[simp] theorem sign_toNat64 (p : Quad) : binary64.sign p.toNat = p.msb := by
  have := p.isLt
  rw [BitVec.msb_eq_decide, Bool.eq_iff_iff, decide_eq_true_eq, FFormat.sign, beq_iff_eq]
  simp only [binary64]
  omega

theorem f32_is {p : Word} (h : binary32.finite p.toNat = true) : (f32 p).Is p.msb (binary32.value p.toNat) :=
  sign_toNat32 p ▸ unpack_is h

theorem f64_is {p : Quad} (h : binary64.finite p.toNat = true) : (f64 p).Is p.msb (binary64.value p.toNat) :=
  sign_toNat64 p ▸ unpack_is h

/-! ### The negation flips the sign bit (48 R739) -/

/-- The place of the sign bit. -/
def FFormat.signBit (f : FFormat) : ℕ := 2 ^ (f.exp + f.frac)

@[simp] theorem FFormat.fraction_xor_signBit (p : ℕ) : f.fraction (p ^^^ f.signBit) = f.fraction p := by
  have : 2 ^ (f.exp + f.frac) % 2 ^ f.frac = 0 := by rw [Nat.pow_add, Nat.mul_mod_left]
  rw [FFormat.fraction, FFormat.signBit, Nat.xor_mod_two_pow, this, Nat.xor_zero, FFormat.fraction]

@[simp] theorem FFormat.biased_xor_signBit (p : ℕ) : f.biased (p ^^^ f.signBit) = f.biased p := by
  have : 2 ^ (f.exp + f.frac) / 2 ^ f.frac % 2 ^ f.exp = 0 := by
    rw [Nat.pow_add, Nat.mul_div_cancel _ (Nat.two_pow_pos _), Nat.mod_self]
  rw [FFormat.biased, FFormat.signBit, Nat.xor_div_two_pow, Nat.xor_mod_two_pow, this, Nat.xor_zero, FFormat.biased]

@[simp] theorem FFormat.sign_xor_signBit (p : ℕ) : f.sign (p ^^^ f.signBit) = !f.sign p := by
  have hdiv : (p ^^^ f.signBit) / 2 ^ (f.exp + f.frac) % 2 = (p / 2 ^ (f.exp + f.frac) % 2) ^^^ 1 := by
    rw [FFormat.signBit, Nat.xor_div_two_pow, Nat.div_self (Nat.two_pow_pos _)]
    exact Nat.xor_mod_two_pow (n := 1)
  rw [FFormat.sign, FFormat.sign, hdiv]
  obtain h | h := Nat.mod_two_eq_zero_or_one (p / 2 ^ (f.exp + f.frac)) <;> rw [h] <;> rfl

@[simp] theorem FFormat.finite_xor_signBit (p : ℕ) : f.finite (p ^^^ f.signBit) = f.finite p := by
  rw [FFormat.finite, FFormat.biased_xor_signBit, FFormat.finite]

theorem signFactor_not (neg : Bool) : signFactor (!neg) = -signFactor neg := by
  cases neg <;> simp [signFactor]

@[simp] theorem FFormat.value_xor_signBit (p : ℕ) : f.value (p ^^^ f.signBit) = -f.value p := by
  rw [FFormat.value_eq, FFormat.value_eq, FFormat.sign_xor_signBit, signFactor_not, FFormat.significand, FFormat.significand,
    FFormat.step, FFormat.step, FFormat.biased_xor_signBit, FFormat.fraction_xor_signBit, neg_mul]

theorem fNeg32_toNat (p : Word) : (fNeg32 p).toNat = p.toNat ^^^ binary32.signBit := BitVec.toNat_xor _ _

theorem fNeg64_toNat (p : Quad) : (fNeg64 p).toNat = p.toNat ^^^ binary64.signBit := BitVec.toNat_xor _ _

@[simp] theorem fNeg32_msb (p : Word) : (fNeg32 p).msb = !p.msb := by
  rw [← sign_toNat32, fNeg32_toNat, FFormat.sign_xor_signBit, sign_toNat32]

@[simp] theorem fNeg64_msb (p : Quad) : (fNeg64 p).msb = !p.msb := by
  rw [← sign_toNat64, fNeg64_toNat, FFormat.sign_xor_signBit, sign_toNat64]

theorem f32_fNeg32_is {p : Word} (h : binary32.finite p.toNat = true) : (f32 (fNeg32 p)).Is (!p.msb) (-binary32.value p.toNat) := by
  rw [← fNeg32_msb, ← FFormat.value_xor_signBit, ← fNeg32_toNat]
  exact f32_is (by rw [fNeg32_toNat, FFormat.finite_xor_signBit, h])

theorem f64_fNeg64_is {p : Quad} (h : binary64.finite p.toNat = true) : (f64 (fNeg64 p)).Is (!p.msb) (-binary64.value p.toNat) := by
  rw [← fNeg64_msb, ← FFormat.value_xor_signBit, ← fNeg64_toNat]
  exact f64_is (by rw [fNeg64_toNat, FFormat.finite_xor_signBit, h])

/-! ### Sums and products -/

theorem signedAt_eq (neg : Bool) (m : ℕ) {e e0 : ℤ} (h : e0 ≤ e) :
    (signedAt neg m e e0 : ℚ) * 2 ^ e0 = signFactor neg * (m * 2 ^ e) := by
  obtain ⟨d, rfl⟩ : ∃ d : ℕ, e = e0 + d := ⟨(e - e0).toNat, by omega⟩
  rw [signedAt, zpow_add₀ two_ne_zero, zpow_natCast, signFactor, show (e0 + d - e0 : ℤ).toNat = d by omega]
  cases neg <;> (push_cast; simp; ring)

/-- An integer is its magnitude with its sign; a zero may have either. -/
theorem signFactor_mul_natAbs {k : ℤ} {neg : Bool} (h : k ≠ 0 → neg = decide (k < 0)) : signFactor neg * (k.natAbs : ℚ) = k := by
  obtain hneg | rfl | hpos := lt_trichotomy k 0
  · rw [h hneg.ne, decide_eq_true hneg, Nat.cast_natAbs, abs_of_neg hneg, signFactor]; simp
  · simp
  · rw [h hpos.ne', decide_eq_false hpos.not_gt, Nat.cast_natAbs, abs_of_pos hpos, signFactor]; simp

/-- The sum; an exact zero is +0 unless both operands are negative zeros (48 R735). -/
theorem FVal.Is.add (hv : v.Is a x) (hw : w.Is b y) : ∃ neg, (v.add w).Is neg (x + y) ∧ (x + y = 0 → neg = (a && b)) := by
  obtain ⟨m1, e1, rfl, hx⟩ := hv
  obtain ⟨m2, e2, rfl, hy⟩ := hw
  have hpos : (0 : ℚ) < 2 ^ min e1 e2 := by positivity
  rw [← signedAt_eq a m1 (min_le_left e1 e2)] at hx
  rw [← signedAt_eq b m2 (min_le_right e1 e2)] at hy
  refine ⟨_, ⟨_, _, rfl, ?_⟩, fun h0 => if_pos ?_⟩
  · rw [← mul_assoc, signFactor_mul_natAbs fun hk => if_neg hk, hx, hy]
    push_cast; ring
  · rw [hx, hy, ← add_mul] at h0
    exact_mod_cast (mul_eq_zero.1 h0).resolve_right hpos.ne'

theorem signFactor_xor (a b : Bool) : signFactor (a ^^ b) = signFactor a * signFactor b := by
  cases a <;> cases b <;> simp [signFactor]

theorem FVal.Is.mul (hv : v.Is a x) (hw : w.Is b y) : (v.mul w).Is (a ^^ b) (x * y) := by
  obtain ⟨m1, e1, rfl, rfl⟩ := hv
  obtain ⟨m2, e2, rfl, rfl⟩ := hw
  refine ⟨m1 * m2, e1 + e2, rfl, ?_⟩
  rw [signFactor_xor, zpow_add₀ two_ne_zero]
  push_cast; ring

/-- A sum is rounded once (48 R735). -/
theorem FVal.Is.rounded32_add (hv : v.Is a x) (hw : w.Is b y) : Rounded binary32 (x + y : ℚ) (a && b) (bits32 (v.add w)).toNat := by
  obtain ⟨neg, hsum, hneg⟩ := hv.add hw
  exact hsum.rounded32.of_sign fun h => hneg (by exact_mod_cast h)

theorem FVal.Is.rounded64_add (hv : v.Is a x) (hw : w.Is b y) : Rounded binary64 (x + y : ℚ) (a && b) (bits64 (v.add w)).toNat := by
  obtain ⟨neg, hsum, hneg⟩ := hv.add hw
  exact hsum.rounded64.of_sign fun h => hneg (by exact_mod_cast h)

end

/-- Settles O57: each operand is its value, each operation is exact on values, and packing rounds once. -/
theorem fpSumsAndProductsRound : Obligations.FpSumsAndProductsRound := by
  refine ⟨fun a b c ha hb hc x y z hx hy hz => ?_, fun a b ha hb x y hx hy => ?_⟩
  · subst hx hy hz
    refine ⟨(f32_is ha).rounded32_add (f32_is hb), ?_, ((f32_is ha).mul (f32_is hb)).rounded32,
      ((f32_is ha).mul (f32_is hb)).rounded32_add (f32_is hc)⟩
    rw [sub_eq_add_neg]
    exact (f32_is ha).rounded32_add (f32_fNeg32_is hb)
  · subst hx hy
    refine ⟨(f64_is ha).rounded64_add (f64_is hb), ?_, ((f64_is ha).mul (f64_is hb)).rounded64⟩
    rw [sub_eq_add_neg]
    exact (f64_is ha).rounded64_add (f64_fNeg64_is hb)

end Sys2Proof.Machine
end

section
/-! SUPPORT. Quotients and square roots (48 R744, R745): the odd last bit that says whether anything was cut makes the cut value stand
for the exact one, and O58. -/

namespace Sys2Proof.Machine

section
variable {f : FFormat} {v w : FVal} {a b : Bool} {x y : ℚ}

/-- A cut integer, with a last bit that says whether anything was cut, stands for the number that was cut. -/
theorem standsFor_cut {bits q : ℕ} {e : ℤ} {R : ℝ} {exact : Prop} [Decidable exact] (hexact : exact → R = q)
    (hcut : ¬ exact → (q : ℝ) < R ∧ R < q + 1) (hbits : ¬ exact → 2 ^ bits ≤ 2 * q) :
    StandsFor bits (2 * q + if exact then 0 else 1) e (R * 2 ^ (e + 1)) := by
  have hpos : (0 : ℝ) < 2 ^ e := by positivity
  rw [zpow_add_one₀ two_ne_zero]
  split
  next h =>
    refine .inl ?_
    rw [hexact h]; push_cast; ring
  next h =>
    obtain ⟨hlow, hhigh⟩ := hcut h
    have := hbits h
    refine .inr ⟨by omega, by omega, ?_, ?_⟩
    · push_cast
      calc (2 * q + 1 - 1 : ℝ) * 2 ^ e = 2 * 2 ^ e * q := by ring
        _ < 2 * 2 ^ e * R := by gcongr
        _ = R * (2 ^ e * 2) := by ring
    · push_cast
      calc R * (2 ^ e * 2) = 2 * 2 ^ e * R := by ring
        _ < 2 * 2 ^ e * (q + 1) := by gcongr
        _ = (2 * q + 1 + 1 : ℝ) * 2 ^ e := by ring

/-! ### Quotients -/

/-- The integer quotient is the quotient, or it is cut. -/
theorem div_cut (n : ℕ) {d : ℕ} (hd : 0 < d) :
    (n % d = 0 → (n / d : ℝ) = (n / d : ℕ)) ∧
      (¬ n % d = 0 → ((n / d : ℕ) : ℝ) < n / d ∧ (n / d : ℝ) < (n / d : ℕ) + 1) := by
  have hd' : (0 : ℝ) < d := by exact_mod_cast hd
  have hn : (n : ℝ) = d * (n / d : ℕ) + (n % d : ℕ) := by exact_mod_cast (Nat.div_add_mod n d).symm
  have hlt : ((n % d : ℕ) : ℝ) < d := by exact_mod_cast Nat.mod_lt n hd
  refine ⟨fun h => ?_, fun h => ?_⟩
  · rw [div_eq_iff hd'.ne', mul_comm, hn, h]; simp
  · have hpos : (0 : ℝ) < (n % d : ℕ) := by exact_mod_cast Nat.pos_of_ne_zero h
    rw [lt_div_iff₀ hd', div_lt_iff₀ hd']
    constructor <;> linarith

theorem signFactor_div (a b : Bool) : signFactor (a ^^ b) = signFactor a / signFactor b := by
  cases a <;> cases b <;> simp [signFactor]

/-- A quotient by a finite value other than 0 is rounded once (48 R744). -/
theorem rounded_div (hf : f.Wide) {m1 m2 : ℕ} {e1 e2 : ℤ} (hm2 : m2 ≠ 0) (hlt : m2 < 2 ^ (f.frac + 1))
    (hx : x = signFactor a * (m1 * 2 ^ e1)) (hy : y = signFactor b * (m2 * 2 ^ e2)) :
    ∃ m e, (FVal.fin a m1 e1).div f (.fin b m2 e2) = .fin (a ^^ b) m e ∧
      Rounded f (x / y : ℚ) (a ^^ b) (packNum f (.fin (a ^^ b) m e)) := by
  have hpos : 0 < m2 := Nat.pos_of_ne_zero hm2
  have hpos' : (m2 : ℝ) ≠ 0 := Nat.cast_ne_zero.2 hm2
  rw [FVal.div, if_neg hm2]
  refine ⟨_, _, rfl, ?_⟩
  generalize hk : 2 * f.frac + 6 = k
  obtain ⟨hexact, hcut⟩ := div_cut (m1 * 2 ^ k) hpos
  refine rounded_packNum hf (standsFor_cut hexact hcut fun h => ?_) ?_
  · have hm1 : 0 < m1 := Nat.pos_of_ne_zero fun h0 => h (by rw [h0, Nat.zero_mul, Nat.zero_mod])
    have hbig : 2 ^ (f.frac + 2) ≤ m1 * 2 ^ k / m2 := by
      rw [Nat.le_div_iff_mul_le hpos]
      calc 2 ^ (f.frac + 2) * m2 ≤ 2 ^ (f.frac + 2) * 2 ^ (f.frac + 1) := Nat.mul_le_mul_left _ hlt.le
        _ = 2 ^ (2 * f.frac + 3) := by rw [← Nat.pow_add]; congr 1; omega
        _ ≤ 2 ^ k := Nat.pow_le_pow_right (by decide) (by omega)
        _ ≤ m1 * 2 ^ k := Nat.le_mul_of_pos_left _ hm1
    omega
  · rw [hx, hy, signFactor_div, show (e1 - e2 - (k : ℕ) - 1 + 1 : ℤ) = e1 - e2 - (k : ℕ) by ring, zpow_sub₀ two_ne_zero,
      zpow_sub₀ two_ne_zero, zpow_natCast]
    push_cast
    field_simp

/-! ### Square roots -/

/-- The integer square root is found bit by bit: the root lies between the bits found and the next number that they allow. -/
theorem isqrtFrom_spec (n : ℕ) : ∀ k r, r * r ≤ n → n < (r + 2 ^ k) * (r + 2 ^ k) →
    isqrtFrom n k r * isqrtFrom n k r ≤ n ∧ n < (isqrtFrom n k r + 1) * (isqrtFrom n k r + 1)
  | 0, r, hlow, hhigh => ⟨hlow, hhigh⟩
  | k + 1, r, hlow, hhigh => by
    rw [isqrtFrom]
    split
    next h => exact isqrtFrom_spec n k _ h (by rwa [Nat.add_assoc, ← Nat.two_mul, ← Nat.pow_succ'])
    next h => exact isqrtFrom_spec n k _ hlow (Nat.lt_of_not_le h)

/-- The integer square root is the root, or it is cut. -/
theorem sqrt_cut {n r : ℕ} (hlow : r * r ≤ n) (hhigh : n < (r + 1) * (r + 1)) :
    (r * r = n → √(n : ℝ) = r) ∧ (¬ r * r = n → (r : ℝ) < √n ∧ √n < r + 1) := by
  refine ⟨fun h => ?_, fun h => ⟨?_, ?_⟩⟩
  · rw [← h, Nat.cast_mul, Real.sqrt_mul_self (Nat.cast_nonneg r)]
  · refine Real.lt_sqrt_of_sq_lt ?_
    rw [sq]; exact_mod_cast Nat.lt_of_le_of_ne hlow h
  · rw [Real.sqrt_lt' (by positivity), sq]; exact_mod_cast hhigh

/-- A root of a positive finite value is rounded once (48 R745). -/
theorem rounded_sqrt (hf : f.Wide) {m : ℕ} {e : ℤ} (hm : m ≠ 0) (hlt : m < 2 ^ (f.frac + 1)) :
    ∃ m' e', (FVal.fin false m e).sqrt f = .fin false m' e' ∧
      Rounded f √((m * 2 ^ e : ℚ) : ℝ) false (packNum f (.fin false m' e')) := by
  rw [FVal.sqrt, if_neg hm, if_neg Bool.false_ne_true]
  refine ⟨_, _, rfl, ?_⟩
  obtain ⟨k, hk⟩ : ∃ k, k = 2 * (f.frac + 4) + (e % 2).toNat := ⟨_, rfl⟩
  obtain ⟨d, hd⟩ : ∃ d : ℤ, e = k + 2 * d := ⟨(e - k) / 2, by omega⟩
  simp only [← hk]
  have hnlow : 2 ^ (2 * (f.frac + 4)) ≤ m * 2 ^ k := by
    calc 2 ^ (2 * (f.frac + 4)) ≤ 2 ^ k := Nat.pow_le_pow_right (by decide) (by omega)
      _ ≤ m * 2 ^ k := Nat.le_mul_of_pos_left _ (Nat.pos_of_ne_zero hm)
  have hnhigh : m * 2 ^ k < 2 ^ (2 * f.frac + 8) * 2 ^ (2 * f.frac + 8) := by
    calc m * 2 ^ k < 2 ^ (f.frac + 1) * 2 ^ k := Nat.mul_lt_mul_of_pos_right hlt (Nat.two_pow_pos _)
      _ = 2 ^ (f.frac + 1 + k) := (Nat.pow_add _ _ _).symm
      _ ≤ 2 ^ (2 * f.frac + 8 + (2 * f.frac + 8)) := Nat.pow_le_pow_right (by decide) (by omega)
      _ = 2 ^ (2 * f.frac + 8) * 2 ^ (2 * f.frac + 8) := Nat.pow_add _ _ _
  obtain ⟨hlow, hhigh⟩ := isqrtFrom_spec (m * 2 ^ k) (2 * f.frac + 8) 0 (Nat.zero_le _) (by rwa [Nat.zero_add])
  generalize isqrtFrom (m * 2 ^ k) (2 * f.frac + 8) 0 = r at hlow hhigh
  obtain ⟨hexact, hcut⟩ := sqrt_cut hlow hhigh
  refine rounded_packNum hf (standsFor_cut hexact hcut fun _ => ?_) ?_
  · have hr : 2 ^ (f.frac + 4) < r + 1 := by
      refine Nat.lt_of_not_le fun h => ?_
      have := Nat.mul_le_mul h h
      rw [← Nat.pow_add, ← Nat.two_mul] at this
      omega
    have : 2 ^ (f.frac + 4) = 2 ^ (f.frac + 2) * 4 := by rw [Nat.pow_add, Nat.pow_add]; ring
    omega
  · have hhalf : (e - k) / 2 - 1 + 1 = d := by omega
    have hsq : ((m * 2 ^ e : ℚ) : ℝ) = (m * 2 ^ k : ℕ) * (2 ^ d * 2 ^ d) := by
      rw [hd, zpow_add₀ two_ne_zero, two_mul, zpow_add₀ two_ne_zero, zpow_natCast]; push_cast; ring
    rw [hhalf, hsq, Real.sqrt_mul (by positivity), Real.sqrt_mul_self (by positivity)]
    simp [signFactor]

/-! ### Of patterns -/

theorem rounded_unpack_div (hf : f.Wide) {p q : ℕ} (hp : f.finite p = true) (hq : f.finite q = true) (h0 : f.value q ≠ 0) :
    ∃ m e, (unpack f p).div f (unpack f q) = .fin (f.sign p ^^ f.sign q) m e ∧
      Rounded f (f.value p / f.value q : ℚ) (f.sign p ^^ f.sign q) (packNum f (.fin (f.sign p ^^ f.sign q) m e)) := by
  rw [unpack_finite hp, unpack_finite hq]
  refine rounded_div hf (fun hm => h0 ?_) (f.significand_lt q) (f.value_eq p) (f.value_eq q)
  rw [f.value_eq, hm]; simp

/-- The root of a value that is not negative; that of a zero keeps its sign. -/
theorem rounded_unpack_sqrt (hf : f.Wide) {p : ℕ} (hp : f.finite p = true) (h0 : 0 ≤ f.value p) :
    ∃ m e, (unpack f p).sqrt f = .fin (f.sign p) m e ∧
      Rounded f √(f.value p : ℝ) (f.sign p) (packNum f (.fin (f.sign p) m e)) := by
  have hval := f.value_eq p
  rw [unpack_finite hp]
  by_cases hm : f.significand p = 0
  · refine ⟨0, _, by rw [FVal.sqrt, if_pos hm], ?_⟩
    rw [hval, hm]
    simpa using FVal.Is.rounded (x := 0) ⟨0, _, rfl, by simp⟩ hf
  · cases hs : f.sign p with
    | false =>
      rw [hs] at hval
      rw [show f.value p = _ from hval]
      simpa [signFactor] using rounded_sqrt hf hm (f.significand_lt p)
    | true =>
      have hpos : (0 : ℚ) < f.significand p * 2 ^ (f.eMin + (f.step p : ℤ)) :=
        mul_pos (by exact_mod_cast Nat.pos_of_ne_zero hm) (by positivity)
      rw [hval, hs, signFactor, if_pos rfl] at h0
      linarith

end

/-- Settles O58: the last bit of a cut quotient or root keeps the rounded value that of the exact one. -/
theorem fpQuotientsAndRootsRound : Obligations.FpQuotientsAndRootsRound := by
  refine ⟨fun a b ha hb x y hx hy => ?_, fun a b ha hb x y hx hy => ?_⟩ <;> subst hx hy <;>
    refine ⟨fun h0 => ?_, fun h0 => ?_⟩
  · obtain ⟨m, e, hdiv, h⟩ := rounded_unpack_div binary32_wide ha hb h0
    rw [fDiv32, f32, f32, hdiv, bits32_fin_toNat]
    simpa using h
  · obtain ⟨m, e, hsqrt, h⟩ := rounded_unpack_sqrt binary32_wide ha h0
    rw [fSqrt32, f32, hsqrt, bits32_fin_toNat]
    simpa using h
  · obtain ⟨m, e, hdiv, h⟩ := rounded_unpack_div binary64_wide ha hb h0
    rw [fDiv64, f64, f64, hdiv, bits64_fin_toNat]
    simpa using h
  · obtain ⟨m, e, hsqrt, h⟩ := rounded_unpack_sqrt binary64_wide ha h0
    rw [fSqrt64, f64, hsqrt, bits64_fin_toNat]
    simpa using h

end Sys2Proof.Machine
end

section
/-! SUPPORT. Comparisons and conversions (48 R738, R740, R746, R747): a comparison of finite values is that of their numbers, a
conversion keeps or truncates the number, and O59. -/

namespace Sys2Proof.Machine

section
variable {f : FFormat} {v w : FVal} {a b neg : Bool} {x y : ℚ}

/-! ### Comparisons -/

theorem FVal.Is.lt_iff (hv : v.Is a x) (hw : w.Is b y) : v.lt w = true ↔ x < y := by
  obtain ⟨m1, e1, rfl, hx⟩ := hv
  obtain ⟨m2, e2, rfl, hy⟩ := hw
  have hpos : (0 : ℚ) < 2 ^ min e1 e2 := by positivity
  rw [← signedAt_eq a m1 (min_le_left e1 e2)] at hx
  rw [← signedAt_eq b m2 (min_le_right e1 e2)] at hy
  rw [hx, hy, mul_lt_mul_iff_left₀ hpos, Int.cast_lt]
  exact decide_eq_true_iff

theorem FVal.Is.isNan_eq (hv : v.Is a x) : v.isNan = false := by
  obtain ⟨m, e, rfl, -⟩ := hv
  rfl

theorem FVal.Is.eq_iff (hv : v.Is a x) (hw : w.Is b y) : v.eq w = true ↔ x = y := by
  rw [FVal.eq, hv.isNan_eq, hw.isNan_eq]
  simp only [Bool.not_false, Bool.true_and, Bool.and_eq_true, Bool.not_eq_true', ← Bool.not_eq_true, hv.lt_iff hw, hw.lt_iff hv,
    not_lt]
  exact ⟨fun ⟨h1, h2⟩ => le_antisymm h2 h1, fun h => ⟨h.ge, h.le⟩⟩

/-! ### Exact conversions -/

/-- A number of at most `frac + 1` places, with the last place in the range of the finite patterns', is the value of one. -/
theorem FFormat.exists_value (hf : f.Wide) (neg : Bool) : ∀ (d : ℕ) {m : ℕ}, m < 2 ^ (f.frac + 1) → d ≤ f.maxStep →
    ∃ p, f.finite p = true ∧ f.value p = signFactor neg * (m * 2 ^ (f.eMin + (d : ℤ))) := by
  have hnormal : ∀ {d m : ℕ}, m < 2 ^ (f.frac + 1) → d ≤ f.maxStep → (d = 0 ∨ 2 ^ f.frac ≤ m) →
      ∃ p, f.finite p = true ∧ f.value p = signFactor neg * (m * 2 ^ (f.eMin + (d : ℤ))) := fun {d m} hm hd h => by
    have hd' := Nat.mul_le_mul_right (2 ^ f.frac) hd
    obtain ⟨hfin, -, hval⟩ := FFormat.of_magnitude (neg := neg) hm.le h (by rw [hf.top_eq]; omega) rfl
    exact ⟨_, hfin, hval⟩
  intro d
  induction d with
  | zero => exact fun hm hd => hnormal hm hd (.inl rfl)
  | succ d ih =>
    intro m hm hd
    obtain hlow | hle := Nat.lt_or_ge m (2 ^ f.frac)
    · obtain ⟨p, hfin, hval⟩ := ih (m := 2 * m) (by rw [Nat.pow_succ]; omega) (by omega)
      refine ⟨p, hfin, ?_⟩
      rw [hval, Nat.cast_add, Nat.cast_one, ← add_assoc, zpow_add_one₀ two_ne_zero]
      push_cast; ring
    · exact hnormal hm hd (.inr hle)

/-- A finite value that the format has is packed exactly. -/
theorem FVal.Is.packNum_exact (hv : v.Is neg x) (hf : f.Wide) (hx : ∃ p, f.finite p = true ∧ f.value p = x) :
    f.finite (packNum f v) = true ∧ f.value (packNum f v) = x ∧ f.sign (packNum f v) = neg := by
  obtain ⟨p, hfin, hval⟩ := hx
  have hround := hv.rounded hf
  have hlt : |(x : ℝ)| < f.limit := hval ▸ FFormat.abs_value_lt_limit hf hfin
  obtain ⟨hfin', hval'⟩ := hround.value_eq hlt hfin (by rw [hval])
  refine ⟨hfin', by exact_mod_cast hval', ?_⟩
  obtain ⟨m, e, rfl, hx⟩ := hv
  exact hround.sign_eq hlt (R := m * 2 ^ e) (by positivity) (by rw [hx]; push_cast; rfl)

theorem binary32_value_mem_binary64 {p : ℕ} (hp : binary32.finite p = true) :
    ∃ q, binary64.finite q = true ∧ binary64.value q = binary32.value p := by
  have hstep := FFormat.step_le_maxStep binary32_wide hp
  have hsig := binary32.significand_lt p
  have hmin : binary32.eMin = binary64.eMin + 925 := by decide
  obtain ⟨q, hq, hval⟩ := FFormat.exists_value binary64_wide (binary32.sign p) (925 + binary32.step p)
    (m := binary32.significand p) (hsig.trans (by decide)) ((Nat.add_le_add_left hstep _).trans (by decide))
  refine ⟨q, hq, ?_⟩
  rw [hval, FFormat.value_eq, hmin]
  push_cast
  rw [add_assoc]

/-! ### Integers -/

theorem ofInteger_is (i : ℤ) : (ofInteger i).Is (decide (i < 0)) i :=
  ⟨_, _, rfl, by rw [zpow_zero, mul_one, signFactor_mul_natAbs fun _ => rfl]⟩

theorem word_mem_binary64 (i : Word) : ∃ q, binary64.finite q = true ∧ binary64.value q = i.toInt := by
  have hlow := i.le_toInt
  have hhigh := i.toInt_lt
  have hmin : binary64.eMin = -1074 := by decide
  obtain ⟨q, hq, hval⟩ := FFormat.exists_value binary64_wide (decide (i.toInt < 0)) 1074 (m := i.toInt.natAbs)
    (by rw [show 2 ^ (binary64.frac + 1) = 9007199254740992 by decide]; omega) (by decide)
  refine ⟨q, hq, ?_⟩
  rw [hval, hmin, show (-1074 + (1074 : ℕ) : ℤ) = 0 by decide, zpow_zero, mul_one, signFactor_mul_natAbs fun _ => rfl]

/-- Truncation drops the places after the point of the magnitude (48 R740). -/
theorem FVal.Is.trunc_eq (hv : v.Is neg x) : v.trunc = some (truncated x) := by
  obtain ⟨m, e, rfl, hx⟩ := hv
  have hfloor : (if 0 ≤ e then (m : ℤ) * 2 ^ e.toNat else m / 2 ^ (-e).toNat) = ⌊(m : ℚ) * 2 ^ e⌋ := by
    split
    next h =>
      obtain ⟨d, rfl⟩ := Int.eq_ofNat_of_zero_le h
      rw [zpow_natCast, Int.toNat_natCast]
      exact_mod_cast (Int.floor_intCast (R := ℚ) (m * 2 ^ d)).symm
    next h =>
      obtain ⟨d, rfl⟩ : ∃ d : ℕ, e = -d := ⟨(-e).toNat, by omega⟩
      rw [zpow_neg, zpow_natCast, ← div_eq_mul_inv, neg_neg, Int.toNat_natCast]
      have h := Rat.floor_intCast_div_natCast m (2 ^ d)
      rw [Int.cast_natCast, Nat.cast_pow, Nat.cast_pow, Nat.cast_ofNat, Nat.cast_ofNat] at h
      exact h.symm
  have hpos : (0 : ℚ) ≤ m * 2 ^ e := by positivity
  simp only [FVal.trunc, Option.some.injEq, hfloor]
  rw [truncated, hx, signFactor]
  cases neg with
  | false => simp [hpos.not_gt]
  | true =>
    simp only [if_true, neg_mul, one_mul, Int.ceil_neg]
    split
    · rfl
    next h => simp [le_antisymm (by linarith) hpos]

theorem unpack_trunc_of_not_finite {p : ℕ} (h : f.finite p = false) : (unpack f p).trunc = none := by
  have he : p / 2 ^ f.frac % 2 ^ f.exp = 2 ^ f.exp - 1 := by
    by_contra hne
    exact Bool.false_ne_true (h.symm.trans (FFormat.finite_iff.2 hne))
  rw [unpack, if_pos he]
  split <;> rfl

/-- The conversion to an integer of a pattern: in the range of `w` bits, or the given open value. -/
theorem truncTo_unpack {k p : ℕ} {t : ℤ} (invalid : BitVec (k + 1)) (ht : t = truncated (f.value p)) :
    truncTo (k + 1) (unpack f p) invalid =
      if f.finite p = true ∧ -2 ^ k ≤ t ∧ t < 2 ^ k then BitVec.ofInt (k + 1) t else invalid := by
  cases hp : f.finite p with
  | false => rw [truncTo, unpack_trunc_of_not_finite hp, if_neg fun h => Bool.false_ne_true h.1]
  | true =>
    rw [truncTo, (unpack_is hp).trunc_eq, ← ht]
    simp only [Nat.add_sub_cancel, true_and, Int.le_sub_one_iff]

end

/-- The comparisons and the widening of binary32 patterns (48 R738, R747). -/
theorem compare32 {a b : Word} (ha : binary32.finite a.toNat = true) (hb : binary32.finite b.toNat = true) :
    (fCmpEq32 a b = true ↔ binary32.value a.toNat = binary32.value b.toNat) ∧
      (fCmpGt32 a b = true ↔ binary32.value b.toNat < binary32.value a.toNat) ∧
      (fCmpGe32 a b = true ↔ binary32.value b.toNat ≤ binary32.value a.toNat) ∧ fCmpUn32 a b = false := by
  have heq : fCmpEq32 a b = true ↔ _ := (f32_is ha).eq_iff (f32_is hb)
  have hgt : fCmpGt32 a b = true ↔ _ := (f32_is hb).lt_iff (f32_is ha)
  refine ⟨heq, hgt, ?_, by rw [fCmpUn32, (f32_is ha).isNan_eq, (f32_is hb).isNan_eq]; rfl⟩
  rw [fCmpGe32, Bool.or_eq_true, heq, hgt, le_iff_lt_or_eq, eq_comm (a := binary32.value b.toNat)]

theorem compare64 {a b : Quad} (ha : binary64.finite a.toNat = true) (hb : binary64.finite b.toNat = true) :
    (fCmpEq64 a b = true ↔ binary64.value a.toNat = binary64.value b.toNat) ∧
      (fCmpGt64 a b = true ↔ binary64.value b.toNat < binary64.value a.toNat) ∧
      (fCmpGe64 a b = true ↔ binary64.value b.toNat ≤ binary64.value a.toNat) ∧ fCmpUn64 a b = false := by
  have heq : fCmpEq64 a b = true ↔ _ := (f64_is ha).eq_iff (f64_is hb)
  have hgt : fCmpGt64 a b = true ↔ _ := (f64_is hb).lt_iff (f64_is ha)
  refine ⟨heq, hgt, ?_, by rw [fCmpUn64, (f64_is ha).isNan_eq, (f64_is hb).isNan_eq]; rfl⟩
  rw [fCmpGe64, Bool.or_eq_true, heq, hgt, le_iff_lt_or_eq, eq_comm (a := binary64.value b.toNat)]

theorem FVal.Is.bits64_exact {v : FVal} {neg : Bool} {x : ℚ} (hv : v.Is neg x)
    (hx : ∃ p, binary64.finite p = true ∧ binary64.value p = x) :
    binary64.finite (bits64 v).toNat = true ∧ binary64.value (bits64 v).toNat = x ∧ (bits64 v).msb = neg := by
  have h := hv.packNum_exact binary64_wide hx
  rw [← sign_toNat64]
  obtain ⟨m, e, rfl, -⟩ := hv
  rwa [bits64_fin_toNat]

theorem ofInteger_rounded32 (i : ℤ) : Rounded binary32 (i : ℝ) false (bits32 (ofInteger i)).toNat := by
  have h := (ofInteger_is i).rounded32
  rw [Rat.cast_intCast] at h
  exact h.of_sign fun h0 => by simp [Int.cast_eq_zero.1 h0]

theorem ofInteger_rounded64 (i : ℤ) : Rounded binary64 (i : ℝ) false (bits64 (ofInteger i)).toNat := by
  have h := (ofInteger_is i).rounded64
  rw [Rat.cast_intCast] at h
  exact h.of_sign fun h0 => by simp [Int.cast_eq_zero.1 h0]

/-- Settles O59: comparisons and conversions speak of the values of the patterns, and packing is exact where the format has the value. -/
theorem fpConversionsAndComparisons : Obligations.FpConversionsAndComparisons := by
  refine ⟨fun a b ha hb x y hx hy => ?_, fun a b ha hb x y hx hy => ?_, fun i j => ?_, fun a b t u ht hu => ?_⟩
  · subst hx hy
    obtain ⟨heq, hgt, hge, hun⟩ := compare32 ha hb
    exact ⟨heq, hgt, hge, hun, (f32_is ha).bits64_exact (binary32_value_mem_binary64 ha)⟩
  · subst hx hy
    obtain ⟨heq, hgt, hge, hun⟩ := compare64 ha hb
    exact ⟨heq, hgt, hge, hun, (f64_is ha).rounded32⟩
  · obtain ⟨hfin, hval, -⟩ := (ofInteger_is i.toInt).bits64_exact (word_mem_binary64 i)
    refine ⟨ofInteger_rounded32 _, hfin, hval, ?_, ofInteger_rounded32 _, ofInteger_rounded64 _⟩
    rintro rfl
    rfl
  · exact ⟨truncTo_unpack _ ht, truncTo_unpack _ ht, truncTo_unpack _ hu, truncTo_unpack _ hu⟩

end Sys2Proof.Machine
end

section
/-! SUPPORT. NaNs, infinities and zeros among the patterns (48 R732 to R735), the dot product (48 R741, R742), and O60. -/

namespace Sys2Proof.Machine

section
variable {f : FFormat} {v w : FVal}

/-! ### Patterns that are not finite, and zeros -/

theorem unpack_of_nan {p : ℕ} (h : f.nan p = true) : unpack f p = .nan := by
  rw [FFormat.nan, Bool.and_eq_true, beq_iff_eq, bne_iff_ne] at h
  obtain ⟨hb, ht⟩ := h
  rw [unpack]
  rw [FFormat.biased] at hb
  rw [FFormat.fraction] at ht
  rw [if_pos hb, if_neg ht]

theorem f32_of_infinity {p : Word} (h : p.toNat ∈ [binary32.infinity false, binary32.infinity true]) : ∃ neg, f32 p = .inf neg := by
  rw [List.mem_pair] at h
  obtain h | h := h <;> rw [f32, h]
  · exact ⟨false, by decide⟩
  · exact ⟨true, by decide⟩

theorem f32_of_zero {p : Word} (h : p.toNat ∈ [0, 2 ^ 31]) : ∃ neg e, f32 p = .fin neg 0 e := by
  rw [List.mem_pair] at h
  obtain h | h := h <;> rw [f32, h]
  · exact ⟨false, binary32.eMin, by decide⟩
  · exact ⟨true, binary32.eMin, by decide⟩

/-! ### NaNs stay (48 R732) -/

@[simp] theorem FVal.nan_add (v : FVal) : FVal.nan.add v = .nan := rfl

@[simp] theorem FVal.add_nan (v : FVal) : v.add .nan = .nan := by cases v <;> rfl

@[simp] theorem FVal.nan_mul (v : FVal) : FVal.nan.mul v = .nan := rfl

@[simp] theorem FVal.mul_nan (v : FVal) : v.mul .nan = .nan := by cases v <;> rfl

@[simp] theorem FVal.inf_mul_zero (neg neg' : Bool) (e : ℤ) : (FVal.inf neg).mul (.fin neg' 0 e) = .nan := rfl

@[simp] theorem FVal.zero_mul_inf (neg neg' : Bool) (e : ℤ) : (FVal.fin neg' 0 e).mul (.inf neg) = .nan := rfl

/-! ### The dot product -/

/-- The invalid products of 48 R741. -/
theorem mul_eq_nan {p q : Word} (h : binary32.nan p.toNat = true ∨ binary32.nan q.toNat = true ∨
    p.toNat ∈ [binary32.infinity false, binary32.infinity true] ∧ q.toNat ∈ [0, 2 ^ 31] ∨
    p.toNat ∈ [0, 2 ^ 31] ∧ q.toNat ∈ [binary32.infinity false, binary32.infinity true]) : (f32 p).mul (f32 q) = .nan := by
  obtain h | h | ⟨hp, hq⟩ | ⟨hp, hq⟩ := h
  · rw [f32, unpack_of_nan h, FVal.nan_mul]
  · rw [f32, f32, unpack_of_nan h, FVal.mul_nan]
  · obtain ⟨neg, hp⟩ := f32_of_infinity hp
    obtain ⟨neg', e, hq⟩ := f32_of_zero hq
    rw [hp, hq, FVal.inf_mul_zero]
  · obtain ⟨neg', e, hp⟩ := f32_of_zero hp
    obtain ⟨neg, hq⟩ := f32_of_infinity hq
    rw [hp, hq, FVal.zero_mul_inf]

theorem FVal.Is.bits32_exact {neg : Bool} {x : ℚ} (hv : v.Is neg x) (hx : IsSingle x) :
    binary32.finite (bits32 v).toNat = true ∧ binary32.value (bits32 v).toNat = x := by
  obtain ⟨y, hfin, hval⟩ := hx
  have h := hv.packNum_exact binary32_wide ⟨_, hfin, hval⟩
  obtain ⟨m, e, rfl, -⟩ := hv
  rw [bits32_fin_toNat]
  exact ⟨h.1, h.2.1⟩

/-- A value that binary32 has comes back from its pattern. -/
theorem FVal.Is.isSingle {neg : Bool} {x : ℚ} (hv : v.Is neg x) (hx : IsSingle x) : v.isSingle = true := by
  obtain ⟨hfin, hval⟩ := hv.bits32_exact hx
  have heq := ((f32_is hfin).eq_iff hv).2 hval
  obtain ⟨m, e, rfl, -⟩ := hv
  exact heq

/-- The fixed part of the dot product meets the constraints, whatever the open values are (48 R741). -/
theorem dotFixed_admissible (v w : Vector Word 4) (free : Word) : DotAdmissible v w (dotFixed v w free) := by
  refine ⟨fun ⟨i, hi⟩ => ?_, fun hall h1 h2 h3 => ?_⟩
  · have hnan := mul_eq_nan hi
    have hcases : (f32 v[0]).mul (f32 w[0]) = .nan ∨ (f32 v[1]).mul (f32 w[1]) = .nan ∨
        (f32 v[2]).mul (f32 w[2]) = .nan ∨ (f32 v[3]).mul (f32 w[3]) = .nan := by
      fin_cases i
      · exact .inl hnan
      · exact .inr (.inl hnan)
      · exact .inr (.inr (.inl hnan))
      · exact .inr (.inr (.inr hnan))
    rw [dotFixed, if_pos]
    obtain h | h | h | h := hcases <;> simp [h, FVal.isNan]
  · have hprod : ∀ i : Fin 4, ∃ neg, ((f32 v[i]).mul (f32 w[i])).Is neg
        (binary32.value v[i].toNat * binary32.value w[i].toNat) := fun i => by
      obtain ⟨hv, hw, -⟩ := hall i
      exact ⟨_, (f32_is hv).mul (f32_is hw)⟩
    obtain ⟨_, hp0⟩ := hprod 0
    obtain ⟨_, hp1⟩ := hprod 1
    obtain ⟨_, hp2⟩ := hprod 2
    obtain ⟨_, hp3⟩ := hprod 3
    obtain ⟨_, hs1, -⟩ := hp0.add hp1
    obtain ⟨_, hs2, -⟩ := hs1.add hp2
    obtain ⟨_, hs3, -⟩ := hs2.add hp3
    have hsingle : ∀ i : Fin 4, ((f32 v[i]).mul (f32 w[i])).isSingle = true := fun i => by
      obtain ⟨_, hp⟩ := hprod i
      exact hp.isSingle (hall i).2.2
    have hdot : dotFixed v w free = bits32 (((((f32 v[(0 : Fin 4)]).mul (f32 w[(0 : Fin 4)])).add
        ((f32 v[(1 : Fin 4)]).mul (f32 w[(1 : Fin 4)]))).add ((f32 v[(2 : Fin 4)]).mul (f32 w[(2 : Fin 4)]))).add
        ((f32 v[(3 : Fin 4)]).mul (f32 w[(3 : Fin 4)]))) := by
      rw [dotFixed, if_neg (by simpa using hs3.isNan_eq), if_pos]
      · rfl
      · simp only [Bool.and_eq_true]
        exact ⟨⟨⟨⟨⟨⟨hsingle 0, hsingle 1⟩, hsingle 2⟩, hsingle 3⟩, hs1.isSingle h1⟩, hs2.isSingle h2⟩, hs3.isSingle h3⟩
    rw [hdot]
    exact hs3.bits32_exact h3

end

/-- Settles O60: both operations are the fixed part with their own open value, the transform row by row. -/
theorem fpDotProductsMeetConstraints : Obligations.FpDotProductsMeetConstraints :=
  fun v w _ => ⟨dotFixed_admissible v w _, fun _ _ => dotFixed_admissible _ v _⟩

end Sys2Proof.Machine
end

section
/-! SUPPORT. NaNs, signed zeros and infinities (48 R732 to R738, R743 to R747): what the exact operations make of them, the patterns
of a signed zero and of an infinity in both formats, and O56. -/

namespace Sys2Proof.Machine

/-! ### Exact operations on NaNs, zeros and infinities -/

section
variable (f : FFormat) (v : FVal) (a b : Bool) (m n : ℕ) (d e : ℤ)

@[simp] theorem FVal.nan_div : FVal.nan.div f v = .nan := rfl

@[simp] theorem FVal.div_nan : v.div f .nan = .nan := by cases v <;> rfl

@[simp] theorem FVal.nan_sqrt : FVal.nan.sqrt f = .nan := rfl

@[simp] theorem FVal.nan_lt : FVal.nan.lt v = false := rfl

@[simp] theorem FVal.lt_nan : v.lt .nan = false := by cases v <;> rfl

@[simp] theorem FVal.isNan_nan : FVal.nan.isNan = true := rfl

@[simp] theorem FVal.isNan_inf : (FVal.inf a).isNan = false := rfl

@[simp] theorem FVal.isNan_fin : (FVal.fin a m e).isNan = false := rfl

@[simp] theorem FVal.inf_add_inf : (FVal.inf a).add (.inf b) = if a = b then .inf a else .nan := rfl

@[simp] theorem FVal.inf_add_fin : (FVal.inf a).add (.fin b m e) = .inf a := rfl

@[simp] theorem FVal.fin_add_inf : (FVal.fin b m e).add (.inf a) = .inf a := rfl

/-- The difference of a value and itself is +0. -/
@[simp] theorem FVal.fin_add_neg : (FVal.fin a m e).add (.fin (!a) m e) = .fin false 0 e := by
  cases a <;> simp [FVal.add, signedAt]

@[simp] theorem FVal.inf_mul_inf : (FVal.inf a).mul (.inf b) = .inf (a ^^ b) := rfl

@[simp] theorem FVal.inf_mul_fin : (FVal.inf a).mul (.fin b m e) = if m = 0 then .nan else .inf (a ^^ b) := rfl

@[simp] theorem FVal.fin_mul_inf : (FVal.fin a m e).mul (.inf b) = if m = 0 then .nan else .inf (a ^^ b) := rfl

@[simp] theorem FVal.fin_mul_fin : (FVal.fin a m d).mul (.fin b n e) = .fin (a ^^ b) (m * n) (d + e) := rfl

@[simp] theorem FVal.inf_div_inf : (FVal.inf a).div f (.inf b) = .nan := rfl

@[simp] theorem FVal.inf_div_fin : (FVal.inf a).div f (.fin b m e) = .inf (a ^^ b) := rfl

@[simp] theorem FVal.fin_div_inf : (FVal.fin a m e).div f (.inf b) = .fin (a ^^ b) 0 0 := rfl

@[simp] theorem FVal.fin_div_zero : (FVal.fin a m d).div f (.fin b 0 e) = if m = 0 then .nan else .inf (a ^^ b) := rfl

@[simp] theorem FVal.inf_sqrt : (FVal.inf a).sqrt f = if a then .nan else .inf false := rfl

@[simp] theorem FVal.zero_sqrt : (FVal.fin a 0 e).sqrt f = .fin a 0 e := rfl

/-- A negative value that is not a zero has no root. -/
theorem FVal.neg_sqrt (hm : m ≠ 0) : (FVal.fin true m e).sqrt f = .nan := by
  rw [FVal.sqrt, if_neg hm, if_pos rfl]

@[simp] theorem FVal.zero_add_zero : (FVal.fin a 0 e).add (.fin a 0 e) = .fin a 0 e := by
  cases a <;> simp [FVal.add, signedAt]

@[simp] theorem FVal.zero_lt_zero : (FVal.fin a 0 d).lt (.fin b 0 e) = false := by
  cases a <;> cases b <;> simp [FVal.lt, signedAt]

@[simp] theorem FVal.inf_lt_inf : (FVal.inf a).lt (.inf b) = (a && !b) := rfl

@[simp] theorem FVal.inf_lt_fin : (FVal.inf a).lt (.fin b m e) = a := rfl

@[simp] theorem FVal.fin_lt_inf : (FVal.fin b m e).lt (.inf a) = !a := rfl

end

/-! ### Patterns of the special values -/

/-- The infinities of binary32. -/
def inf32 (neg : Bool) : Word := if neg then 0xFF800000 else 0x7F800000

/-- The infinities of binary64. -/
def inf64 (neg : Bool) : Quad := if neg then 0xFFF0000000000000 else 0x7FF0000000000000

/-- The zeros of binary32. -/
def zero32 (neg : Bool) : Word := if neg then 0x80000000 else 0

/-- The zeros of binary64. -/
def zero64 (neg : Bool) : Quad := if neg then 0x8000000000000000 else 0

section
variable (neg neg' : Bool) (e : ℤ)

@[simp] theorem f32_inf32 : f32 (inf32 neg) = .inf neg := by cases neg <;> decide

@[simp] theorem f64_inf64 : f64 (inf64 neg) = .inf neg := by cases neg <;> decide

@[simp] theorem f32_zero32 : f32 (zero32 neg) = .fin neg 0 binary32.eMin := by cases neg <;> decide

@[simp] theorem f64_zero64 : f64 (zero64 neg) = .fin neg 0 binary64.eMin := by cases neg <;> decide

@[simp] theorem fNeg32_inf32 : fNeg32 (inf32 neg) = inf32 (!neg) := by cases neg <;> decide

@[simp] theorem fNeg64_inf64 : fNeg64 (inf64 neg) = inf64 (!neg) := by cases neg <;> decide

@[simp] theorem bits32_inf : bits32 (.inf neg) = inf32 neg := by cases neg <;> decide

@[simp] theorem bits64_inf : bits64 (.inf neg) = inf64 neg := by cases neg <;> decide

@[simp] theorem bits32_nan : bits32 .nan = fpNan32 := rfl

@[simp] theorem bits64_nan : bits64 .nan = fpNan64 := rfl

@[simp] theorem bits32_zero : bits32 (.fin neg 0 e) = zero32 neg := by cases neg <;> rfl

@[simp] theorem bits64_zero : bits64 (.fin neg 0 e) = zero64 neg := by cases neg <;> rfl

@[simp] theorem inf32_msb : (inf32 neg).msb = neg := by cases neg <;> decide

@[simp] theorem inf64_msb : (inf64 neg).msb = neg := by cases neg <;> decide

@[simp] theorem zero32_msb : (zero32 neg).msb = neg := by cases neg <;> decide

@[simp] theorem zero64_msb : (zero64 neg).msb = neg := by cases neg <;> decide

@[simp] theorem inf64_inj : inf64 neg = inf64 neg' ↔ neg = neg' := by cases neg <;> cases neg' <;> decide

@[simp] theorem inf32_inj : inf32 neg = inf32 neg' ↔ neg = neg' := by cases neg <;> cases neg' <;> decide

end

@[simp] theorem zero32_false : zero32 false = 0#32 := rfl

@[simp] theorem zero64_false : zero64 false = 0#64 := rfl

@[simp] theorem f32_zero : f32 0#32 = .fin false 0 binary32.eMin := f32_zero32 false

@[simp] theorem f64_zero : f64 0#64 = .fin false 0 binary64.eMin := f64_zero64 false

/-- The sign bit alone is a signed zero. -/
theorem and_signBit32 (p : Word) : p &&& zero32 true = zero32 p.msb := by
  rw [show zero32 true = BitVec.twoPow 32 31 by decide, BitVec.and_twoPow, BitVec.msb_eq_getLsbD_last]
  rfl

theorem and_signBit64 (p : Quad) : p &&& zero64 true = zero64 p.msb := by
  rw [show zero64 true = BitVec.twoPow 64 63 by decide, BitVec.and_twoPow, BitVec.msb_eq_getLsbD_last]
  rfl

theorem inf_or_zero32 (neg : Bool) : inf32 false ||| zero32 neg = inf32 neg := by cases neg <;> decide

theorem inf_or_zero64 (neg : Bool) : inf64 false ||| zero64 neg = inf64 neg := by cases neg <;> decide

/-! ### NaN patterns -/

theorem append_toNat_mod {p q : ℕ} (u : BitVec p) (t : BitVec q) : (u ++ t).toNat % 2 ^ q = t.toNat := by
  rw [BitVec.toNat_append, ← Nat.shiftLeft_add_eq_or_of_lt t.isLt, Nat.shiftLeft_eq, Nat.mul_add_mod_of_lt t.isLt]

theorem append_toNat_div {p q : ℕ} (u : BitVec p) (t : BitVec q) : (u ++ t).toNat / 2 ^ q = u.toNat := by
  rw [BitVec.toNat_append, ← Nat.shiftLeft_add_eq_or_of_lt t.isLt, Nat.shiftLeft_eq, Nat.mul_comm,
    Nat.mul_add_div (Nat.two_pow_pos _), Nat.div_eq_of_lt t.isLt, Nat.add_zero]

/-- A pattern with all bits of the exponent and one of the fraction is a NaN. -/
theorem nan_append {f : FFormat} (s : BitVec 1) {t : BitVec f.frac} (ht : t ≠ 0) :
    f.nan (s ++ BitVec.allOnes f.exp ++ t).toNat = true := by
  rw [FFormat.nan, FFormat.biased, FFormat.fraction, append_toNat_div, append_toNat_mod, append_toNat_mod, BitVec.toNat_allOnes,
    Bool.and_eq_true, beq_iff_eq, bne_iff_ne]
  exact ⟨rfl, fun h => ht (BitVec.eq_of_toNat_eq h)⟩

/-- A fraction that is kept from 0, as that of `FP_NAN` is. -/
theorem keep_ne_zero {n : ℕ} (hn : 0 < n) (t : BitVec n) : (if t = 0 then 1 else t) ≠ 0 := by
  split
  · exact fun h => by simpa [Nat.mod_eq_of_lt (Nat.one_lt_two_pow hn.ne')] using congrArg BitVec.toNat h
  next h => exact h

theorem fpNan32_nan : binary32.nan fpNan32.toNat = true :=
  nan_append (f := binary32) _ (keep_ne_zero (by decide) Config.nanFraction32)

theorem fpNan64_nan : binary64.nan fpNan64.toNat = true :=
  nan_append (f := binary64) _ (keep_ne_zero (by decide) Config.nanFraction64)

theorem f32_of_nan {n : Word} (h : binary32.nan n.toNat = true) : f32 n = .nan := unpack_of_nan h

theorem f64_of_nan {n : Quad} (h : binary64.nan n.toNat = true) : f64 n = .nan := unpack_of_nan h

theorem FFormat.nan_xor_signBit {f : FFormat} (p : ℕ) : f.nan (p ^^^ f.signBit) = f.nan p := by
  rw [FFormat.nan, FFormat.biased_xor_signBit, FFormat.fraction_xor_signBit, FFormat.nan]

theorem f32_fNeg32_of_nan {n : Word} (h : binary32.nan n.toNat = true) : f32 (fNeg32 n) = .nan :=
  unpack_of_nan (by rw [fNeg32_toNat, FFormat.nan_xor_signBit, h])

theorem f64_fNeg64_of_nan {n : Quad} (h : binary64.nan n.toNat = true) : f64 (fNeg64 n) = .nan :=
  unpack_of_nan (by rw [fNeg64_toNat, FFormat.nan_xor_signBit, h])

/-! ### Finite patterns -/

/-- The significand is 0 just for the zeros: it is 0 where all bits but the sign are. -/
theorem FFormat.significand_eq_zero_iff {f : FFormat} (p : ℕ) : p % 2 ^ (f.exp + f.frac) = 0 ↔ f.significand p = 0 := by
  have hsplit : p % 2 ^ (f.exp + f.frac) = f.fraction p + 2 ^ f.frac * f.biased p := by
    rw [Nat.add_comm f.exp, Nat.pow_add, Nat.mod_mul]; rfl
  rw [hsplit, Nat.add_eq_zero_iff, Nat.mul_eq_zero, FFormat.significand]
  split
  next h => simp [h]
  next h => simp [h]

theorem unpack_xor_signBit {f : FFormat} {p : ℕ} (h : f.finite p = true) :
    unpack f (p ^^^ f.signBit) = .fin (!f.sign p) (f.significand p) (f.eMin + f.step p) := by
  rw [unpack_finite (by rw [FFormat.finite_xor_signBit, h]), FFormat.sign_xor_signBit, FFormat.significand, FFormat.step,
    FFormat.biased_xor_signBit, FFormat.fraction_xor_signBit]
  rfl

theorem f32_of_finite {x : Word} (h : binary32.finite x.toNat = true) :
    ∃ m e, f32 x = .fin x.msb m e ∧ f32 (fNeg32 x) = .fin (!x.msb) m e ∧ (x.extractLsb' 0 31 = 0#31 ↔ m = 0) := by
  refine ⟨_, _, sign_toNat32 x ▸ unpack_finite h, ?_, ?_⟩
  · rw [f32, fNeg32_toNat, unpack_xor_signBit h, sign_toNat32]
  · rw [← FFormat.significand_eq_zero_iff, ← BitVec.toNat_inj, BitVec.extractLsb'_toNat, Nat.shiftRight_zero]
    rfl

theorem f64_of_finite {x : Quad} (h : binary64.finite x.toNat = true) :
    ∃ m e, f64 x = .fin x.msb m e ∧ f64 (fNeg64 x) = .fin (!x.msb) m e ∧ (x.extractLsb' 0 63 = 0#63 ↔ m = 0) := by
  refine ⟨_, _, sign_toNat64 x ▸ unpack_finite h, ?_, ?_⟩
  · rw [f64, fNeg64_toNat, unpack_xor_signBit h, sign_toNat64]
  · rw [← FFormat.significand_eq_zero_iff, ← BitVec.toNat_inj, BitVec.extractLsb'_toNat, Nat.shiftRight_zero]
    rfl

/-- A pattern with the sign bit and no other is −0. -/
theorem eq_zero32 {x : Word} (hs : x.msb = true) (h : x.extractLsb' 0 31 = 0#31) : x = zero32 true := by
  have hlt := x.isLt
  rw [BitVec.msb_eq_decide, decide_eq_true_eq] at hs
  rw [← BitVec.toNat_inj, BitVec.extractLsb'_toNat, Nat.shiftRight_zero, BitVec.toNat_ofNat, Nat.zero_mod] at h
  refine BitVec.eq_of_toNat_eq (Eq.trans ?_ (by decide : 2 ^ 31 = (zero32 true).toNat))
  omega

theorem eq_zero64 {x : Quad} (hs : x.msb = true) (h : x.extractLsb' 0 63 = 0#63) : x = zero64 true := by
  have hlt := x.isLt
  rw [BitVec.msb_eq_decide, decide_eq_true_eq] at hs
  rw [← BitVec.toNat_inj, BitVec.extractLsb'_toNat, Nat.shiftRight_zero, BitVec.toNat_ofNat, Nat.zero_mod] at h
  refine BitVec.eq_of_toNat_eq (Eq.trans ?_ (by decide : 2 ^ 63 = (zero64 true).toNat))
  omega

/-- A negative value that is not −0 has no root (48 R745). -/
theorem fSqrt32_of_neg {x : Word} (hx : binary32.finite x.toNat = true) (hs : x.msb = true) (h0 : x ≠ zero32 true) :
    fSqrt32 x = fpNan32 := by
  obtain ⟨m, e, hfx, -, hm⟩ := f32_of_finite hx
  rw [fSqrt32, hfx, hs, FVal.neg_sqrt _ _ _ fun h => h0 (eq_zero32 hs (hm.2 h)), bits32_nan]

theorem fSqrt64_of_neg {x : Quad} (hx : binary64.finite x.toNat = true) (hs : x.msb = true) (h0 : x ≠ zero64 true) :
    fSqrt64 x = fpNan64 := by
  obtain ⟨m, e, hfx, -, hm⟩ := f64_of_finite hx
  rw [fSqrt64, hfx, hs, FVal.neg_sqrt _ _ _ fun h => h0 (eq_zero64 hs (hm.2 h)), bits64_nan]

/-- A NaN operand of a binary32 operation gives a NaN, and is unordered (48 R732, R738). -/
theorem nan_operand32 {n : Word} (hn : binary32.nan n.toNat = true) (y : Word) :
    binary32.nan fpNan32.toNat = true ∧ fAdd32 n y = fpNan32 ∧ fAdd32 y n = fpNan32 ∧ fSub32 n y = fpNan32 ∧
        fSub32 y n = fpNan32 ∧
      fMul32 n y = fpNan32 ∧ fMul32 y n = fpNan32 ∧ fDiv32 n y = fpNan32 ∧ fDiv32 y n = fpNan32 ∧ fSqrt32 n = fpNan32 ∧
        fCmpEq32 n y = false ∧
      fCmpEq32 y n = false ∧ fCmpGt32 n y = false ∧ fCmpGt32 y n = false ∧ fCmpGe32 n y = false ∧ fCmpGe32 y n = false ∧
      fCmpUn32 n y = true ∧ fCmpUn32 y n = true ∧ (∀ v, fMulAdd32 n y v = fpNan32 ∧ fMulAdd32 y n v = fpNan32 ∧
        fMulAdd32 y v n = fpNan32) ∧
      fCvtF32toF64 n = fpNan64 := by
  have hf := f32_of_nan hn
  have hf' := f32_fNeg32_of_nan hn
  simp [fpNan32_nan, fAdd32, fSub32, fMul32, fDiv32, fSqrt32, fCmpEq32, fCmpGt32, fCmpGe32, fCmpUn32, fMulAdd32, fCvtF32toF64,
    FVal.eq, hf, hf']

/-- Invalid operations, and the signs of zeros and infinities, in binary32 arithmetic without a rounding (48 R732, R735, R736, R743 to
R745). -/
theorem special_arithmetic32 {x : Word} (hx : binary32.finite x.toNat = true) (a b : Bool) :
    fMul32 (zero32 a) (inf32 b) = fpNan32 ∧ fMul32 (inf32 b) (zero32 a) = fpNan32 ∧ fDiv32 (inf32 b) (inf32 b) = fpNan32 ∧
      fDiv32 (inf32 b) (fNeg32 (inf32 b)) = fpNan32 ∧ fDiv32 (zero32 a) 0 = fpNan32 ∧
      fDiv32 (zero32 a) (zero32 true) = fpNan32 ∧ fAdd32 (inf32 b) (fNeg32 (inf32 b)) = fpNan32 ∧
      fSub32 (inf32 b) (inf32 b) = fpNan32 ∧ fSqrt32 (inf32 true) = fpNan32 ∧
      (x.msb = true → x ≠ zero32 true → fSqrt32 x = fpNan32) ∧ fSub32 x x = 0 ∧
      fAdd32 (zero32 true) (zero32 true) = zero32 true ∧ fSqrt32 (zero32 a) = zero32 a ∧
      fSqrt32 (inf32 false) = inf32 false ∧ fMul32 x (zero32 a) = (x ^^^ zero32 a) &&& zero32 true ∧
      fDiv32 x (inf32 b) = (x ^^^ inf32 b) &&& zero32 true ∧ fAdd32 (inf32 b) x = inf32 b ∧ fAdd32 x (inf32 b) = inf32 b ∧
      fAdd32 (inf32 b) (inf32 b) = inf32 b ∧ fSub32 (inf32 b) x = inf32 b ∧ fSub32 x (inf32 b) = fNeg32 (inf32 b) ∧
      fSub32 (inf32 b) (fNeg32 (inf32 b)) = inf32 b ∧ fMul32 (inf32 b) (inf32 b) = inf32 false ∧
      fMul32 (inf32 b) (fNeg32 (inf32 b)) = inf32 true ∧
      fDiv32 (inf32 b) x = inf32 false ||| ((inf32 b ^^^ x) &&& zero32 true) ∧
      (x.extractLsb' 0 31 ≠ 0 → fDiv32 x (zero32 a) = inf32 false ||| ((x ^^^ zero32 a) &&& zero32 true) ∧
        fMul32 x (inf32 b) = inf32 false ||| ((x ^^^ inf32 b) &&& zero32 true) ∧
        fMul32 (inf32 b) x = inf32 false ||| ((inf32 b ^^^ x) &&& zero32 true)) := by
  have hroot := fSqrt32_of_neg hx
  obtain ⟨m, e, hfx, hnx, hm⟩ := f32_of_finite hx
  have hm0 : x.extractLsb' 0 31 ≠ 0 → m ≠ 0 := fun h hm0 => h (hm.2 hm0)
  refine ⟨?_, ?_, ?_, ?_, ?_, ?_, ?_, ?_, ?_, hroot, ?_, ?_, ?_, ?_, ?_, ?_, ?_, ?_, ?_, ?_, ?_, ?_, ?_, ?_, ?_, fun h => ?nonzero⟩
  case nonzero =>
    simp [fDiv32, fMul32, hfx, hm0 h, and_signBit32, inf_or_zero32]
  all_goals
    simp [fAdd32, fSub32, fMul32, fDiv32, fSqrt32, hfx, hnx, and_signBit32, inf_or_zero32]

/-- Comparisons with zeros and infinities (48 R738). -/
theorem special_compare32 {x : Word} (hx : binary32.finite x.toNat = true) (b : Bool) :
    fCmpEq32 0 (zero32 true) = true ∧ fCmpGt32 0 (zero32 true) = false ∧ fCmpGe32 (zero32 true) 0 = true ∧
      fCmpEq32 (inf32 b) (inf32 b) = true ∧ fCmpEq32 (inf32 b) x = false ∧ fCmpEq32 x (inf32 b) = false ∧
      fCmpEq32 (inf32 b) (fNeg32 (inf32 b)) = false ∧ fCmpGt32 (inf32 b) (inf32 b) = false ∧
      fCmpGe32 (inf32 b) (inf32 b) = true ∧ fCmpGt32 (inf32 false) x = true ∧ fCmpGt32 x (inf32 true) = true ∧
      fCmpGt32 (inf32 false) (inf32 true) = true ∧ fCmpGt32 x (inf32 false) = false ∧ fCmpGt32 (inf32 true) x = false ∧
      fCmpGt32 (inf32 true) (inf32 false) = false ∧ fCmpGe32 (inf32 false) x = true ∧ fCmpGe32 x (inf32 true) = true ∧
      fCmpGe32 x (inf32 false) = false ∧ fCmpGe32 (inf32 true) x = false ∧ fCmpUn32 (inf32 b) x = false ∧
      fCmpUn32 x (inf32 b) = false ∧ fCmpUn32 (inf32 b) (inf32 b) = false := by
  obtain ⟨m, e, hfx, -, -⟩ := f32_of_finite hx
  simp [fCmpEq32, fCmpGt32, fCmpGe32, fCmpUn32, FVal.eq, hfx]

/-- A NaN operand of a binary64 operation gives a NaN, and is unordered (48 R732, R738). -/
theorem nan_operand64 {n : Quad} (hn : binary64.nan n.toNat = true) (y : Quad) :
    binary64.nan fpNan64.toNat = true ∧ fAdd64 n y = fpNan64 ∧ fAdd64 y n = fpNan64 ∧ fSub64 n y = fpNan64 ∧
        fSub64 y n = fpNan64 ∧
      fMul64 n y = fpNan64 ∧ fMul64 y n = fpNan64 ∧ fDiv64 n y = fpNan64 ∧ fDiv64 y n = fpNan64 ∧ fSqrt64 n = fpNan64 ∧
        fCmpEq64 n y = false ∧
      fCmpEq64 y n = false ∧ fCmpGt64 n y = false ∧ fCmpGt64 y n = false ∧ fCmpGe64 n y = false ∧ fCmpGe64 y n = false ∧
      fCmpUn64 n y = true ∧ fCmpUn64 y n = true ∧ fCvtF64toF32 n = fpNan32 := by
  have hf := f64_of_nan hn
  have hf' := f64_fNeg64_of_nan hn
  simp [fpNan64_nan, fAdd64, fSub64, fMul64, fDiv64, fSqrt64, fCmpEq64, fCmpGt64, fCmpGe64, fCmpUn64, fCvtF64toF32,
    FVal.eq, hf, hf']

/-- Invalid operations, and the signs of zeros and infinities, in binary64 arithmetic without a rounding (48 R732, R735, R736, R743 to
R745). -/
theorem special_arithmetic64 {x : Quad} (hx : binary64.finite x.toNat = true) (a b : Bool) :
    fMul64 (zero64 a) (inf64 b) = fpNan64 ∧ fMul64 (inf64 b) (zero64 a) = fpNan64 ∧ fDiv64 (inf64 b) (inf64 b) = fpNan64 ∧
      fDiv64 (inf64 b) (fNeg64 (inf64 b)) = fpNan64 ∧ fDiv64 (zero64 a) 0 = fpNan64 ∧
      fDiv64 (zero64 a) (zero64 true) = fpNan64 ∧ fAdd64 (inf64 b) (fNeg64 (inf64 b)) = fpNan64 ∧
      fSub64 (inf64 b) (inf64 b) = fpNan64 ∧ fSqrt64 (inf64 true) = fpNan64 ∧
      (x.msb = true → x ≠ zero64 true → fSqrt64 x = fpNan64) ∧ fSub64 x x = 0 ∧
      fAdd64 (zero64 true) (zero64 true) = zero64 true ∧ fSqrt64 (zero64 a) = zero64 a ∧
      fSqrt64 (inf64 false) = inf64 false ∧ fMul64 x (zero64 a) = (x ^^^ zero64 a) &&& zero64 true ∧
      fDiv64 x (inf64 b) = (x ^^^ inf64 b) &&& zero64 true ∧ fAdd64 (inf64 b) x = inf64 b ∧ fAdd64 x (inf64 b) = inf64 b ∧
      fAdd64 (inf64 b) (inf64 b) = inf64 b ∧ fSub64 (inf64 b) x = inf64 b ∧ fSub64 x (inf64 b) = fNeg64 (inf64 b) ∧
      fSub64 (inf64 b) (fNeg64 (inf64 b)) = inf64 b ∧ fMul64 (inf64 b) (inf64 b) = inf64 false ∧
      fMul64 (inf64 b) (fNeg64 (inf64 b)) = inf64 true ∧
      fDiv64 (inf64 b) x = inf64 false ||| ((inf64 b ^^^ x) &&& zero64 true) ∧
      (x.extractLsb' 0 63 ≠ 0 → fDiv64 x (zero64 a) = inf64 false ||| ((x ^^^ zero64 a) &&& zero64 true) ∧
        fMul64 x (inf64 b) = inf64 false ||| ((x ^^^ inf64 b) &&& zero64 true) ∧
        fMul64 (inf64 b) x = inf64 false ||| ((inf64 b ^^^ x) &&& zero64 true)) := by
  have hroot := fSqrt64_of_neg hx
  obtain ⟨m, e, hfx, hnx, hm⟩ := f64_of_finite hx
  have hm0 : x.extractLsb' 0 63 ≠ 0 → m ≠ 0 := fun h hm0 => h (hm.2 hm0)
  refine ⟨?_, ?_, ?_, ?_, ?_, ?_, ?_, ?_, ?_, hroot, ?_, ?_, ?_, ?_, ?_, ?_, ?_, ?_, ?_, ?_, ?_, ?_, ?_, ?_, ?_, fun h => ?nonzero⟩
  case nonzero =>
    simp [fDiv64, fMul64, hfx, hm0 h, and_signBit64, inf_or_zero64]
  all_goals
    simp [fAdd64, fSub64, fMul64, fDiv64, fSqrt64, hfx, hnx, and_signBit64, inf_or_zero64]

/-- Comparisons with zeros and infinities (48 R738). -/
theorem special_compare64 {x : Quad} (hx : binary64.finite x.toNat = true) (b : Bool) :
    fCmpEq64 0 (zero64 true) = true ∧ fCmpGt64 0 (zero64 true) = false ∧ fCmpGe64 (zero64 true) 0 = true ∧
      fCmpEq64 (inf64 b) (inf64 b) = true ∧ fCmpEq64 (inf64 b) x = false ∧ fCmpEq64 x (inf64 b) = false ∧
      fCmpEq64 (inf64 b) (fNeg64 (inf64 b)) = false ∧ fCmpGt64 (inf64 b) (inf64 b) = false ∧
      fCmpGe64 (inf64 b) (inf64 b) = true ∧ fCmpGt64 (inf64 false) x = true ∧ fCmpGt64 x (inf64 true) = true ∧
      fCmpGt64 (inf64 false) (inf64 true) = true ∧ fCmpGt64 x (inf64 false) = false ∧ fCmpGt64 (inf64 true) x = false ∧
      fCmpGt64 (inf64 true) (inf64 false) = false ∧ fCmpGe64 (inf64 false) x = true ∧ fCmpGe64 x (inf64 true) = true ∧
      fCmpGe64 x (inf64 false) = false ∧ fCmpGe64 (inf64 true) x = false ∧ fCmpUn64 (inf64 b) x = false ∧
      fCmpUn64 x (inf64 b) = false ∧ fCmpUn64 (inf64 b) (inf64 b) = false := by
  obtain ⟨m, e, hfx, -, -⟩ := f64_of_finite hx
  simp [fCmpEq64, fCmpGt64, fCmpGe64, fCmpUn64, FVal.eq, hfx]

/-- A multiply-add with an infinite product or addend (48 R737). -/
theorem special_mulAdd32 {x : Word} (hx : binary32.finite x.toNat = true) (y : Word) (a b : Bool) :
    fMulAdd32 (zero32 a) (inf32 b) y = fpNan32 ∧ fMulAdd32 (inf32 b) (zero32 a) y = fpNan32 ∧
      (x.extractLsb' 0 31 ≠ 0 → ∀ p, p = inf32 false ||| ((x ^^^ inf32 b) &&& zero32 true) →
        fMulAdd32 (inf32 b) x (fNeg32 p) = fpNan32 ∧ fMulAdd32 x (inf32 b) (fNeg32 p) = fpNan32 ∧ fMulAdd32 (inf32 b) x p = p ∧
          (binary32.finite y.toNat = true → fMulAdd32 (inf32 b) x y = p ∧ fMulAdd32 x (inf32 b) y = p)) ∧
      (binary32.finite y.toNat = true → fMulAdd32 x y (inf32 b) = inf32 b) := by
  obtain ⟨m, e, hfx, -, hm⟩ := f32_of_finite hx
  refine ⟨by simp [fMulAdd32], by simp [fMulAdd32], fun h p hp => ?_, fun hy => ?_⟩
  · have hm0 : m ≠ 0 := fun hm0 => h (hm.2 hm0)
    have hxi : (f32 x).mul (.inf b) = .inf (x.msb ^^ b) := by simp [hfx, hm0]
    have hix : (FVal.inf b).mul (f32 x) = .inf (x.msb ^^ b) := by simp [hfx, hm0, Bool.xor_comm]
    obtain rfl : p = inf32 (x.msb ^^ b) := by rw [hp, and_signBit32, BitVec.msb_xor, inf32_msb, inf_or_zero32]
    refine ⟨?_, ?_, ?_, fun hy => ?_⟩
    · simp [fMulAdd32, hix]
    · simp [fMulAdd32, hxi]
    · simp [fMulAdd32, hix]
    · obtain ⟨m', e', hfy, -, -⟩ := f32_of_finite hy
      simp [fMulAdd32, hix, hxi, hfy]
  · obtain ⟨m', e', hfy, -, -⟩ := f32_of_finite hy
    simp [fMulAdd32, hfx, hfy]

/-- Settles O56: the tables of NaN operands and of special values, of each format. -/
theorem fpNansZerosAndInfinities : Obligations.FpNansZerosAndInfinities := by
  refine ⟨fun n x y z i => ⟨fun hn => nan_operand32 hn y, fun hx hz hi => ?_⟩,
    fun n x y z i => ⟨fun hn => nan_operand64 hn y, fun hx hz hi => ?_⟩⟩
  · obtain ⟨a, rfl⟩ : ∃ a, z = zero32 a := hz.elim (fun h => ⟨false, h⟩) fun h => ⟨true, h⟩
    obtain ⟨b, rfl⟩ : ∃ b, i = inf32 b := hi.elim (fun h => ⟨false, h⟩) fun h => ⟨true, h⟩
    have hwide : fCvtF32toF64 (inf32 b) = if inf32 b = inf32 false then inf64 false else inf64 true := by
      cases b <;> simp [fCvtF32toF64]
    have h := And.intro (special_arithmetic32 hx a b)
      (And.intro (special_compare32 hx b) (And.intro (special_mulAdd32 hx y a b) hwide))
    simp only [and_assoc] at h
    exact h
  · obtain ⟨a, rfl⟩ : ∃ a, z = zero64 a := hz.elim (fun h => ⟨false, h⟩) fun h => ⟨true, h⟩
    obtain ⟨b, rfl⟩ : ∃ b, i = inf64 b := hi.elim (fun h => ⟨false, h⟩) fun h => ⟨true, h⟩
    have hnarrow : fCvtF64toF32 (inf64 b) = if inf64 b = inf64 false then inf32 false else inf32 true := by
      cases b <;> simp [fCvtF64toF32]
    have h := And.intro (special_arithmetic64 hx a b) (And.intro (special_compare64 hx b) hnarrow)
    simp only [and_assoc] at h
    exact h

end Sys2Proof.Machine
end
